-- ==== Sys2Proof/Word.lean ====
section
/-! DEFINITION. The machine's two word types and their plainest arithmetic (rules R9, R30, R140). -/

namespace Sys2Proof

/-- `u8` of rule R9: one memory byte, one 8-bit register. -/
abbrev Byte := BitVec 8

/-- `u16` of rule R9: an address, a register pair, SP or PC; `+` and `-` wrap modulo 65536. -/
abbrev Word := BitVec 16

/-- `v[15:8]` of rule R9. -/
def hiByte (w : Word) : Byte := w.extractLsb' 8 8

/-- `v[7:0]` of rule R9. -/
def loByte (w : Word) : Byte := w.extractLsb' 0 8

/-- `hi ++ lo` of rule R9: `(hi << 8) | lo`. -/
def wordOf (hi lo : Byte) : Word := hi ++ lo

@[simp] theorem hiByte_wordOf (hi lo : Byte) : hiByte (wordOf hi lo) = hi := by
  apply BitVec.eq_of_getLsbD_eq
  intro i h
  simp only [hiByte, wordOf, BitVec.getLsbD_extractLsb', BitVec.getLsbD_append, h]
  have : ¬ (8 + i < 8) := by omega
  simp [this]

@[simp] theorem loByte_wordOf (hi lo : Byte) : loByte (wordOf hi lo) = lo := by
  apply BitVec.eq_of_getLsbD_eq
  intro i h
  simp only [loByte, wordOf, BitVec.getLsbD_extractLsb', BitVec.getLsbD_append, h]
  simp [h]

@[simp] theorem wordOf_hi_lo (w : Word) : wordOf (hiByte w) (loByte w) = w := by
  apply BitVec.eq_of_getLsbD_eq
  intro i h
  simp only [wordOf, hiByte, loByte, BitVec.getLsbD_extractLsb', BitVec.getLsbD_append]
  by_cases h8 : i < 8
  · simp [h8]
  · have : i - 8 < 8 := by omega
    have e : 8 + (i - 8) = i := by omega
    simp [h8, this, e]

end Sys2Proof
end

