-- ==== Sys2Proof/Syntax.lean ====
section
/-! DEFINITION. The instructions: one constructor per row of spec/opcode_table.json, and the operand
families of rules R224-R229 that index them (30_encoding.md). -/

namespace Sys2Proof

/-- Rule R224: the register codes of the 8-bit operand field, code 6 `(HL)` apart. -/
inductive Reg8 where
  | b | c | d | e | h | l | a
  deriving DecidableEq, Repr

/-- Rule R225: the pairs of the 16-bit operand field. -/
inductive Reg16 where
  | bc | de | hl | sp
  deriving DecidableEq, Repr

/-- Rule R226: the pairs of PUSH and POP. -/
inductive StackPair where
  | bc | de | hl | af
  deriving DecidableEq, Repr

/-- Rule R227: the conditions. -/
inductive Cond where
  | nz | z | nc | c
  deriving DecidableEq, Repr

/-- Rule R228: the operations on the accumulator. -/
inductive AluOp where
  | add | adc | sub | sbc | and | xor | or | cp
  deriving DecidableEq, Repr

/-- Rule R229: the rotates and shifts of the CB table. -/
inductive ShiftOp where
  | rlc | rrc | rl | rr | sla | sra | swap | srl
  deriving DecidableEq, Repr

/-- Rules R223, R395: a three-bit field y: a bit number, or an RST target. -/
inductive Field3 where
  | f0 | f1 | f2 | f3 | f4 | f5 | f6 | f7
  deriving DecidableEq, Repr

/-- The value 0..7 of a three-bit field. -/
def Field3.val : Field3 → Nat
  | .f0 => 0 | .f1 => 1 | .f2 => 2 | .f3 => 3 | .f4 => 4 | .f5 => 5 | .f6 => 6 | .f7 => 7

/-- Rule R232: the eleven bytes that encode no instruction. -/
inductive IllegalOp where
  | d3 | db | dd | e3 | e4 | eb | ec | ed | f4 | fc | fd
  deriving DecidableEq, Repr

/-- The byte of rule R232. -/
def IllegalOp.code : IllegalOp → Byte
  | .d3 => 0xD3 | .db => 0xDB | .dd => 0xDD | .e3 => 0xE3 | .e4 => 0xE4 | .eb => 0xEB
  | .ec => 0xEC | .ed => 0xED | .f4 => 0xF4 | .fc => 0xFC | .fd => 0xFD

/-- Rules R220, R230, R231: the 511 rows of the opcode table, those with operands first. `n` is a byte
operand, `nn` a 16-bit operand, `e` the signed displacement of rule R223; STOP keeps the second byte
it ignores (R233). -/
inductive Instr where
  | ldBcNn (nn : Word)
  | ldBN (n : Byte)
  | ldMnnSp (nn : Word)
  | ldCN (n : Byte)
  | stop (n : Byte)
  | ldDeNn (nn : Word)
  | ldDN (n : Byte)
  | jrE (e : Int)
  | ldEN (n : Byte)
  | jrNzE (e : Int)
  | ldHlNn (nn : Word)
  | ldHN (n : Byte)
  | jrZE (e : Int)
  | ldLN (n : Byte)
  | jrNcE (e : Int)
  | ldSpNn (nn : Word)
  | ldMhlN (n : Byte)
  | jrCE (e : Int)
  | ldAN (n : Byte)
  | jpNzNn (nn : Word)
  | jpNn (nn : Word)
  | callNzNn (nn : Word)
  | addAN (n : Byte)
  | jpZNn (nn : Word)
  | callZNn (nn : Word)
  | callNn (nn : Word)
  | adcAN (n : Byte)
  | jpNcNn (nn : Word)
  | callNcNn (nn : Word)
  | subN (n : Byte)
  | jpCNn (nn : Word)
  | callCNn (nn : Word)
  | sbcAN (n : Byte)
  | ldhMnA (n : Byte)
  | andN (n : Byte)
  | addSpE (e : Int)
  | ldMnnA (nn : Word)
  | xorN (n : Byte)
  | ldhAMn (n : Byte)
  | orN (n : Byte)
  | ldHlSpE (e : Int)
  | ldAMnn (nn : Word)
  | cpN (n : Byte)
  | nop
  | ldMbcA
  | incBc
  | incB
  | decB
  | rlca
  | addHlBc
  | ldAMbc
  | decBc
  | incC
  | decC
  | rrca
  | ldMdeA
  | incDe
  | incD
  | decD
  | rla
  | addHlDe
  | ldAMde
  | decDe
  | incE
  | decE
  | rra
  | ldMhliA
  | incHl
  | incH
  | decH
  | daa
  | addHlHl
  | ldAMhli
  | decHl
  | incL
  | decL
  | cpl
  | ldMhldA
  | incSp
  | incMhl
  | decMhl
  | scf
  | addHlSp
  | ldAMhld
  | decSp
  | incA
  | decA
  | ccf
  | ldBB
  | ldBC
  | ldBD
  | ldBE
  | ldBH
  | ldBL
  | ldBMhl
  | ldBA
  | ldCB
  | ldCC
  | ldCD
  | ldCE
  | ldCH
  | ldCL
  | ldCMhl
  | ldCA
  | ldDB
  | ldDC
  | ldDD
  | ldDE
  | ldDH
  | ldDL
  | ldDMhl
  | ldDA
  | ldEB
  | ldEC
  | ldED
  | ldEE
  | ldEH
  | ldEL
  | ldEMhl
  | ldEA
  | ldHB
  | ldHC
  | ldHD
  | ldHE
  | ldHH
  | ldHL
  | ldHMhl
  | ldHA
  | ldLB
  | ldLC
  | ldLD
  | ldLE
  | ldLH
  | ldLL
  | ldLMhl
  | ldLA
  | ldMhlB
  | ldMhlC
  | ldMhlD
  | ldMhlE
  | ldMhlH
  | ldMhlL
  | halt
  | ldMhlA
  | ldAB
  | ldAC
  | ldAD
  | ldAE
  | ldAH
  | ldAL
  | ldAMhl
  | ldAA
  | addAB
  | addAC
  | addAD
  | addAE
  | addAH
  | addAL
  | addAMhl
  | addAA
  | adcAB
  | adcAC
  | adcAD
  | adcAE
  | adcAH
  | adcAL
  | adcAMhl
  | adcAA
  | subB
  | subC
  | subD
  | subE
  | subH
  | subL
  | subMhl
  | subA
  | sbcAB
  | sbcAC
  | sbcAD
  | sbcAE
  | sbcAH
  | sbcAL
  | sbcAMhl
  | sbcAA
  | andB
  | andC
  | andD
  | andE
  | andH
  | andL
  | andMhl
  | andA
  | xorB
  | xorC
  | xorD
  | xorE
  | xorH
  | xorL
  | xorMhl
  | xorA
  | orB
  | orC
  | orD
  | orE
  | orH
  | orL
  | orMhl
  | orA
  | cpB
  | cpC
  | cpD
  | cpE
  | cpH
  | cpL
  | cpMhl
  | cpA
  | retNz
  | popBc
  | pushBc
  | rst00
  | retZ
  | ret
  | rst08
  | retNc
  | popDe
  | invalidD3
  | pushDe
  | rst10
  | retC
  | reti
  | invalidDB
  | invalidDD
  | rst18
  | popHl
  | ldhMcA
  | invalidE3
  | invalidE4
  | pushHl
  | rst20
  | jpHl
  | invalidEB
  | invalidEC
  | invalidED
  | rst28
  | popAf
  | ldhAMc
  | di
  | invalidF4
  | pushAf
  | rst30
  | ldSpHl
  | ei
  | invalidFC
  | invalidFD
  | rst38
  | rlcB
  | rlcC
  | rlcD
  | rlcE
  | rlcH
  | rlcL
  | rlcMhl
  | rlcA
  | rrcB
  | rrcC
  | rrcD
  | rrcE
  | rrcH
  | rrcL
  | rrcMhl
  | rrcA
  | rlB
  | rlC
  | rlD
  | rlE
  | rlH
  | rlL
  | rlMhl
  | rlA
  | rrB
  | rrC
  | rrD
  | rrE
  | rrH
  | rrL
  | rrMhl
  | rrA
  | slaB
  | slaC
  | slaD
  | slaE
  | slaH
  | slaL
  | slaMhl
  | slaA
  | sraB
  | sraC
  | sraD
  | sraE
  | sraH
  | sraL
  | sraMhl
  | sraA
  | swapB
  | swapC
  | swapD
  | swapE
  | swapH
  | swapL
  | swapMhl
  | swapA
  | srlB
  | srlC
  | srlD
  | srlE
  | srlH
  | srlL
  | srlMhl
  | srlA
  | bit0B
  | bit0C
  | bit0D
  | bit0E
  | bit0H
  | bit0L
  | bit0Mhl
  | bit0A
  | bit1B
  | bit1C
  | bit1D
  | bit1E
  | bit1H
  | bit1L
  | bit1Mhl
  | bit1A
  | bit2B
  | bit2C
  | bit2D
  | bit2E
  | bit2H
  | bit2L
  | bit2Mhl
  | bit2A
  | bit3B
  | bit3C
  | bit3D
  | bit3E
  | bit3H
  | bit3L
  | bit3Mhl
  | bit3A
  | bit4B
  | bit4C
  | bit4D
  | bit4E
  | bit4H
  | bit4L
  | bit4Mhl
  | bit4A
  | bit5B
  | bit5C
  | bit5D
  | bit5E
  | bit5H
  | bit5L
  | bit5Mhl
  | bit5A
  | bit6B
  | bit6C
  | bit6D
  | bit6E
  | bit6H
  | bit6L
  | bit6Mhl
  | bit6A
  | bit7B
  | bit7C
  | bit7D
  | bit7E
  | bit7H
  | bit7L
  | bit7Mhl
  | bit7A
  | res0B
  | res0C
  | res0D
  | res0E
  | res0H
  | res0L
  | res0Mhl
  | res0A
  | res1B
  | res1C
  | res1D
  | res1E
  | res1H
  | res1L
  | res1Mhl
  | res1A
  | res2B
  | res2C
  | res2D
  | res2E
  | res2H
  | res2L
  | res2Mhl
  | res2A
  | res3B
  | res3C
  | res3D
  | res3E
  | res3H
  | res3L
  | res3Mhl
  | res3A
  | res4B
  | res4C
  | res4D
  | res4E
  | res4H
  | res4L
  | res4Mhl
  | res4A
  | res5B
  | res5C
  | res5D
  | res5E
  | res5H
  | res5L
  | res5Mhl
  | res5A
  | res6B
  | res6C
  | res6D
  | res6E
  | res6H
  | res6L
  | res6Mhl
  | res6A
  | res7B
  | res7C
  | res7D
  | res7E
  | res7H
  | res7L
  | res7Mhl
  | res7A
  | set0B
  | set0C
  | set0D
  | set0E
  | set0H
  | set0L
  | set0Mhl
  | set0A
  | set1B
  | set1C
  | set1D
  | set1E
  | set1H
  | set1L
  | set1Mhl
  | set1A
  | set2B
  | set2C
  | set2D
  | set2E
  | set2H
  | set2L
  | set2Mhl
  | set2A
  | set3B
  | set3C
  | set3D
  | set3E
  | set3H
  | set3L
  | set3Mhl
  | set3A
  | set4B
  | set4C
  | set4D
  | set4E
  | set4H
  | set4L
  | set4Mhl
  | set4A
  | set5B
  | set5C
  | set5D
  | set5E
  | set5H
  | set5L
  | set5Mhl
  | set5A
  | set6B
  | set6C
  | set6D
  | set6E
  | set6H
  | set6L
  | set6Mhl
  | set6A
  | set7B
  | set7C
  | set7D
  | set7E
  | set7H
  | set7L
  | set7Mhl
  | set7A
  deriving DecidableEq, Repr

namespace Instr

/-- Rule R260: `LD r,r'`, encoded `01 yyy zzz`. -/
def ldRegReg : Reg8 → Reg8 → Instr
  | .b, .b => .ldBB
  | .b, .c => .ldBC
  | .b, .d => .ldBD
  | .b, .e => .ldBE
  | .b, .h => .ldBH
  | .b, .l => .ldBL
  | .b, .a => .ldBA
  | .c, .b => .ldCB
  | .c, .c => .ldCC
  | .c, .d => .ldCD
  | .c, .e => .ldCE
  | .c, .h => .ldCH
  | .c, .l => .ldCL
  | .c, .a => .ldCA
  | .d, .b => .ldDB
  | .d, .c => .ldDC
  | .d, .d => .ldDD
  | .d, .e => .ldDE
  | .d, .h => .ldDH
  | .d, .l => .ldDL
  | .d, .a => .ldDA
  | .e, .b => .ldEB
  | .e, .c => .ldEC
  | .e, .d => .ldED
  | .e, .e => .ldEE
  | .e, .h => .ldEH
  | .e, .l => .ldEL
  | .e, .a => .ldEA
  | .h, .b => .ldHB
  | .h, .c => .ldHC
  | .h, .d => .ldHD
  | .h, .e => .ldHE
  | .h, .h => .ldHH
  | .h, .l => .ldHL
  | .h, .a => .ldHA
  | .l, .b => .ldLB
  | .l, .c => .ldLC
  | .l, .d => .ldLD
  | .l, .e => .ldLE
  | .l, .h => .ldLH
  | .l, .l => .ldLL
  | .l, .a => .ldLA
  | .a, .b => .ldAB
  | .a, .c => .ldAC
  | .a, .d => .ldAD
  | .a, .e => .ldAE
  | .a, .h => .ldAH
  | .a, .l => .ldAL
  | .a, .a => .ldAA

/-- Rule R261: `LD r,(HL)`. -/
def ldRegMem : Reg8 → Instr
  | .b => .ldBMhl
  | .c => .ldCMhl
  | .d => .ldDMhl
  | .e => .ldEMhl
  | .h => .ldHMhl
  | .l => .ldLMhl
  | .a => .ldAMhl

/-- Rule R262: `LD (HL),r`. -/
def ldMemReg : Reg8 → Instr
  | .b => .ldMhlB
  | .c => .ldMhlC
  | .d => .ldMhlD
  | .e => .ldMhlE
  | .h => .ldMhlH
  | .l => .ldMhlL
  | .a => .ldMhlA

/-- Rule R263: `LD r,n`. -/
def ldRegImm (r : Reg8) (n : Byte) : Instr :=
  match r with
  | .b => .ldBN n
  | .c => .ldCN n
  | .d => .ldDN n
  | .e => .ldEN n
  | .h => .ldHN n
  | .l => .ldLN n
  | .a => .ldAN n

/-- Rule R310: the register forms of the accumulator operations. -/
def aluReg : AluOp → Reg8 → Instr
  | .add, .b => .addAB
  | .add, .c => .addAC
  | .add, .d => .addAD
  | .add, .e => .addAE
  | .add, .h => .addAH
  | .add, .l => .addAL
  | .add, .a => .addAA
  | .adc, .b => .adcAB
  | .adc, .c => .adcAC
  | .adc, .d => .adcAD
  | .adc, .e => .adcAE
  | .adc, .h => .adcAH
  | .adc, .l => .adcAL
  | .adc, .a => .adcAA
  | .sub, .b => .subB
  | .sub, .c => .subC
  | .sub, .d => .subD
  | .sub, .e => .subE
  | .sub, .h => .subH
  | .sub, .l => .subL
  | .sub, .a => .subA
  | .sbc, .b => .sbcAB
  | .sbc, .c => .sbcAC
  | .sbc, .d => .sbcAD
  | .sbc, .e => .sbcAE
  | .sbc, .h => .sbcAH
  | .sbc, .l => .sbcAL
  | .sbc, .a => .sbcAA
  | .and, .b => .andB
  | .and, .c => .andC
  | .and, .d => .andD
  | .and, .e => .andE
  | .and, .h => .andH
  | .and, .l => .andL
  | .and, .a => .andA
  | .xor, .b => .xorB
  | .xor, .c => .xorC
  | .xor, .d => .xorD
  | .xor, .e => .xorE
  | .xor, .h => .xorH
  | .xor, .l => .xorL
  | .xor, .a => .xorA
  | .or, .b => .orB
  | .or, .c => .orC
  | .or, .d => .orD
  | .or, .e => .orE
  | .or, .h => .orH
  | .or, .l => .orL
  | .or, .a => .orA
  | .cp, .b => .cpB
  | .cp, .c => .cpC
  | .cp, .d => .cpD
  | .cp, .e => .cpE
  | .cp, .h => .cpH
  | .cp, .l => .cpL
  | .cp, .a => .cpA

/-- Rule R310: the `(HL)` forms of the accumulator operations. -/
def aluMem : AluOp → Instr
  | .add => .addAMhl
  | .adc => .adcAMhl
  | .sub => .subMhl
  | .sbc => .sbcAMhl
  | .and => .andMhl
  | .xor => .xorMhl
  | .or => .orMhl
  | .cp => .cpMhl

/-- Rule R310: the immediate forms of the accumulator operations. -/
def aluImm (o : AluOp) (n : Byte) : Instr :=
  match o with
  | .add => .addAN n
  | .adc => .adcAN n
  | .sub => .subN n
  | .sbc => .sbcAN n
  | .and => .andN n
  | .xor => .xorN n
  | .or => .orN n
  | .cp => .cpN n

/-- Rule R319: `INC r`. -/
def incReg : Reg8 → Instr
  | .b => .incB
  | .c => .incC
  | .d => .incD
  | .e => .incE
  | .h => .incH
  | .l => .incL
  | .a => .incA

/-- Rule R321: `DEC r`. -/
def decReg : Reg8 → Instr
  | .b => .decB
  | .c => .decC
  | .d => .decD
  | .e => .decE
  | .h => .decH
  | .l => .decL
  | .a => .decA

/-- Rule R290: `LD rr,nn`. -/
def ldPairImm (p : Reg16) (nn : Word) : Instr :=
  match p with
  | .bc => .ldBcNn nn
  | .de => .ldDeNn nn
  | .hl => .ldHlNn nn
  | .sp => .ldSpNn nn

/-- Rule R340: `ADD HL,rr`. -/
def addHlPair : Reg16 → Instr
  | .bc => .addHlBc
  | .de => .addHlDe
  | .hl => .addHlHl
  | .sp => .addHlSp

/-- Rule R341: `INC rr`. -/
def incPair : Reg16 → Instr
  | .bc => .incBc
  | .de => .incDe
  | .hl => .incHl
  | .sp => .incSp

/-- Rule R342: `DEC rr`. -/
def decPair : Reg16 → Instr
  | .bc => .decBc
  | .de => .decDe
  | .hl => .decHl
  | .sp => .decSp

/-- Rule R294: `PUSH rr`. -/
def pushPair : StackPair → Instr
  | .bc => .pushBc
  | .de => .pushDe
  | .hl => .pushHl
  | .af => .pushAf

/-- Rules R295, R296: `POP rr`. -/
def popPair : StackPair → Instr
  | .bc => .popBc
  | .de => .popDe
  | .hl => .popHl
  | .af => .popAf

/-- Rule R381: `JP cc,nn`. -/
def jpCond (cc : Cond) (nn : Word) : Instr :=
  match cc with
  | .nz => .jpNzNn nn
  | .z => .jpZNn nn
  | .nc => .jpNcNn nn
  | .c => .jpCNn nn

/-- Rule R384: `JR cc,e`. -/
def jrCond (cc : Cond) (e : Int) : Instr :=
  match cc with
  | .nz => .jrNzE e
  | .z => .jrZE e
  | .nc => .jrNcE e
  | .c => .jrCE e

/-- Rule R386: `CALL cc,nn`. -/
def callCond (cc : Cond) (nn : Word) : Instr :=
  match cc with
  | .nz => .callNzNn nn
  | .z => .callZNn nn
  | .nc => .callNcNn nn
  | .c => .callCNn nn

/-- Rule R388: `RET cc`. -/
def retCond : Cond → Instr
  | .nz => .retNz
  | .z => .retZ
  | .nc => .retNc
  | .c => .retC

/-- Rule R395: `RST t` with t = 8 * y. -/
def rstVec : Field3 → Instr
  | .f0 => .rst00
  | .f1 => .rst08
  | .f2 => .rst10
  | .f3 => .rst18
  | .f4 => .rst20
  | .f5 => .rst28
  | .f6 => .rst30
  | .f7 => .rst38

/-- Rules R355-R362 on a register. -/
def shiftReg : ShiftOp → Reg8 → Instr
  | .rlc, .b => .rlcB
  | .rlc, .c => .rlcC
  | .rlc, .d => .rlcD
  | .rlc, .e => .rlcE
  | .rlc, .h => .rlcH
  | .rlc, .l => .rlcL
  | .rlc, .a => .rlcA
  | .rrc, .b => .rrcB
  | .rrc, .c => .rrcC
  | .rrc, .d => .rrcD
  | .rrc, .e => .rrcE
  | .rrc, .h => .rrcH
  | .rrc, .l => .rrcL
  | .rrc, .a => .rrcA
  | .rl, .b => .rlB
  | .rl, .c => .rlC
  | .rl, .d => .rlD
  | .rl, .e => .rlE
  | .rl, .h => .rlH
  | .rl, .l => .rlL
  | .rl, .a => .rlA
  | .rr, .b => .rrB
  | .rr, .c => .rrC
  | .rr, .d => .rrD
  | .rr, .e => .rrE
  | .rr, .h => .rrH
  | .rr, .l => .rrL
  | .rr, .a => .rrA
  | .sla, .b => .slaB
  | .sla, .c => .slaC
  | .sla, .d => .slaD
  | .sla, .e => .slaE
  | .sla, .h => .slaH
  | .sla, .l => .slaL
  | .sla, .a => .slaA
  | .sra, .b => .sraB
  | .sra, .c => .sraC
  | .sra, .d => .sraD
  | .sra, .e => .sraE
  | .sra, .h => .sraH
  | .sra, .l => .sraL
  | .sra, .a => .sraA
  | .swap, .b => .swapB
  | .swap, .c => .swapC
  | .swap, .d => .swapD
  | .swap, .e => .swapE
  | .swap, .h => .swapH
  | .swap, .l => .swapL
  | .swap, .a => .swapA
  | .srl, .b => .srlB
  | .srl, .c => .srlC
  | .srl, .d => .srlD
  | .srl, .e => .srlE
  | .srl, .h => .srlH
  | .srl, .l => .srlL
  | .srl, .a => .srlA

/-- Rules R355-R362 on `(HL)`. -/
def shiftMem : ShiftOp → Instr
  | .rlc => .rlcMhl
  | .rrc => .rrcMhl
  | .rl => .rlMhl
  | .rr => .rrMhl
  | .sla => .slaMhl
  | .sra => .sraMhl
  | .swap => .swapMhl
  | .srl => .srlMhl

/-- Rule R363: `BIT b,r`. -/
def bitReg : Field3 → Reg8 → Instr
  | .f0, .b => .bit0B
  | .f0, .c => .bit0C
  | .f0, .d => .bit0D
  | .f0, .e => .bit0E
  | .f0, .h => .bit0H
  | .f0, .l => .bit0L
  | .f0, .a => .bit0A
  | .f1, .b => .bit1B
  | .f1, .c => .bit1C
  | .f1, .d => .bit1D
  | .f1, .e => .bit1E
  | .f1, .h => .bit1H
  | .f1, .l => .bit1L
  | .f1, .a => .bit1A
  | .f2, .b => .bit2B
  | .f2, .c => .bit2C
  | .f2, .d => .bit2D
  | .f2, .e => .bit2E
  | .f2, .h => .bit2H
  | .f2, .l => .bit2L
  | .f2, .a => .bit2A
  | .f3, .b => .bit3B
  | .f3, .c => .bit3C
  | .f3, .d => .bit3D
  | .f3, .e => .bit3E
  | .f3, .h => .bit3H
  | .f3, .l => .bit3L
  | .f3, .a => .bit3A
  | .f4, .b => .bit4B
  | .f4, .c => .bit4C
  | .f4, .d => .bit4D
  | .f4, .e => .bit4E
  | .f4, .h => .bit4H
  | .f4, .l => .bit4L
  | .f4, .a => .bit4A
  | .f5, .b => .bit5B
  | .f5, .c => .bit5C
  | .f5, .d => .bit5D
  | .f5, .e => .bit5E
  | .f5, .h => .bit5H
  | .f5, .l => .bit5L
  | .f5, .a => .bit5A
  | .f6, .b => .bit6B
  | .f6, .c => .bit6C
  | .f6, .d => .bit6D
  | .f6, .e => .bit6E
  | .f6, .h => .bit6H
  | .f6, .l => .bit6L
  | .f6, .a => .bit6A
  | .f7, .b => .bit7B
  | .f7, .c => .bit7C
  | .f7, .d => .bit7D
  | .f7, .e => .bit7E
  | .f7, .h => .bit7H
  | .f7, .l => .bit7L
  | .f7, .a => .bit7A

/-- Rule R363: `BIT b,(HL)`. -/
def bitMem : Field3 → Instr
  | .f0 => .bit0Mhl
  | .f1 => .bit1Mhl
  | .f2 => .bit2Mhl
  | .f3 => .bit3Mhl
  | .f4 => .bit4Mhl
  | .f5 => .bit5Mhl
  | .f6 => .bit6Mhl
  | .f7 => .bit7Mhl

/-- Rule R364: `RES b,r`. -/
def resReg : Field3 → Reg8 → Instr
  | .f0, .b => .res0B
  | .f0, .c => .res0C
  | .f0, .d => .res0D
  | .f0, .e => .res0E
  | .f0, .h => .res0H
  | .f0, .l => .res0L
  | .f0, .a => .res0A
  | .f1, .b => .res1B
  | .f1, .c => .res1C
  | .f1, .d => .res1D
  | .f1, .e => .res1E
  | .f1, .h => .res1H
  | .f1, .l => .res1L
  | .f1, .a => .res1A
  | .f2, .b => .res2B
  | .f2, .c => .res2C
  | .f2, .d => .res2D
  | .f2, .e => .res2E
  | .f2, .h => .res2H
  | .f2, .l => .res2L
  | .f2, .a => .res2A
  | .f3, .b => .res3B
  | .f3, .c => .res3C
  | .f3, .d => .res3D
  | .f3, .e => .res3E
  | .f3, .h => .res3H
  | .f3, .l => .res3L
  | .f3, .a => .res3A
  | .f4, .b => .res4B
  | .f4, .c => .res4C
  | .f4, .d => .res4D
  | .f4, .e => .res4E
  | .f4, .h => .res4H
  | .f4, .l => .res4L
  | .f4, .a => .res4A
  | .f5, .b => .res5B
  | .f5, .c => .res5C
  | .f5, .d => .res5D
  | .f5, .e => .res5E
  | .f5, .h => .res5H
  | .f5, .l => .res5L
  | .f5, .a => .res5A
  | .f6, .b => .res6B
  | .f6, .c => .res6C
  | .f6, .d => .res6D
  | .f6, .e => .res6E
  | .f6, .h => .res6H
  | .f6, .l => .res6L
  | .f6, .a => .res6A
  | .f7, .b => .res7B
  | .f7, .c => .res7C
  | .f7, .d => .res7D
  | .f7, .e => .res7E
  | .f7, .h => .res7H
  | .f7, .l => .res7L
  | .f7, .a => .res7A

/-- Rule R364: `RES b,(HL)`. -/
def resMem : Field3 → Instr
  | .f0 => .res0Mhl
  | .f1 => .res1Mhl
  | .f2 => .res2Mhl
  | .f3 => .res3Mhl
  | .f4 => .res4Mhl
  | .f5 => .res5Mhl
  | .f6 => .res6Mhl
  | .f7 => .res7Mhl

/-- Rule R365: `SET b,r`. -/
def setReg : Field3 → Reg8 → Instr
  | .f0, .b => .set0B
  | .f0, .c => .set0C
  | .f0, .d => .set0D
  | .f0, .e => .set0E
  | .f0, .h => .set0H
  | .f0, .l => .set0L
  | .f0, .a => .set0A
  | .f1, .b => .set1B
  | .f1, .c => .set1C
  | .f1, .d => .set1D
  | .f1, .e => .set1E
  | .f1, .h => .set1H
  | .f1, .l => .set1L
  | .f1, .a => .set1A
  | .f2, .b => .set2B
  | .f2, .c => .set2C
  | .f2, .d => .set2D
  | .f2, .e => .set2E
  | .f2, .h => .set2H
  | .f2, .l => .set2L
  | .f2, .a => .set2A
  | .f3, .b => .set3B
  | .f3, .c => .set3C
  | .f3, .d => .set3D
  | .f3, .e => .set3E
  | .f3, .h => .set3H
  | .f3, .l => .set3L
  | .f3, .a => .set3A
  | .f4, .b => .set4B
  | .f4, .c => .set4C
  | .f4, .d => .set4D
  | .f4, .e => .set4E
  | .f4, .h => .set4H
  | .f4, .l => .set4L
  | .f4, .a => .set4A
  | .f5, .b => .set5B
  | .f5, .c => .set5C
  | .f5, .d => .set5D
  | .f5, .e => .set5E
  | .f5, .h => .set5H
  | .f5, .l => .set5L
  | .f5, .a => .set5A
  | .f6, .b => .set6B
  | .f6, .c => .set6C
  | .f6, .d => .set6D
  | .f6, .e => .set6E
  | .f6, .h => .set6H
  | .f6, .l => .set6L
  | .f6, .a => .set6A
  | .f7, .b => .set7B
  | .f7, .c => .set7C
  | .f7, .d => .set7D
  | .f7, .e => .set7E
  | .f7, .h => .set7H
  | .f7, .l => .set7L
  | .f7, .a => .set7A

/-- Rule R365: `SET b,(HL)`. -/
def setMem : Field3 → Instr
  | .f0 => .set0Mhl
  | .f1 => .set1Mhl
  | .f2 => .set2Mhl
  | .f3 => .set3Mhl
  | .f4 => .set4Mhl
  | .f5 => .set5Mhl
  | .f6 => .set6Mhl
  | .f7 => .set7Mhl

/-- Rules R232, R407: the rows of the illegal bytes. -/
def illegal : IllegalOp → Instr
  | .d3 => .invalidD3
  | .db => .invalidDB
  | .dd => .invalidDD
  | .e3 => .invalidE3
  | .e4 => .invalidE4
  | .eb => .invalidEB
  | .ec => .invalidEC
  | .ed => .invalidED
  | .f4 => .invalidF4
  | .fc => .invalidFC
  | .fd => .invalidFD

end Instr

end Sys2Proof
end

