-- ==== Sys2Proof/WellFormed.lean ====
section
/-! DEFINITION. Which instruction terms the encoding can hold (rules R223, R235): a signed
displacement is one byte, every other operand already has the width of its field. -/

namespace Sys2Proof

/-- Rule R223: the displacement `e` is a two's-complement byte, -128..127 (R235 says it of JR). -/
def dispFits (e : Int) : Bool := decide (-128 ≤ e) && decide (e ≤ 127)

/-- The signed displacement an instruction carries, if its format is 2B-e (rule R220). -/
def Instr.displacement? : Instr → Option Int
  | .jrE e => some e
  | .jrNzE e => some e
  | .jrZE e => some e
  | .jrNcE e => some e
  | .jrCE e => some e
  | .addSpE e => some e
  | .ldHlSpE e => some e
  | .nop | .ldBcNn _ | .ldMbcA | .incBc | .incB | .decB | .ldBN _ | .rlca
  | .ldMnnSp _ | .addHlBc | .ldAMbc | .decBc | .incC | .decC | .ldCN _ | .rrca
  | .stop _ | .ldDeNn _ | .ldMdeA | .incDe | .incD | .decD | .ldDN _ | .rla
  | .addHlDe | .ldAMde | .decDe | .incE | .decE | .ldEN _ | .rra | .ldHlNn _
  | .ldMhliA | .incHl | .incH | .decH | .ldHN _ | .daa | .addHlHl | .ldAMhli
  | .decHl | .incL | .decL | .ldLN _ | .cpl | .ldSpNn _ | .ldMhldA | .incSp
  | .incMhl | .decMhl | .ldMhlN _ | .scf | .addHlSp | .ldAMhld | .decSp | .incA
  | .decA | .ldAN _ | .ccf | .ldBB | .ldBC | .ldBD | .ldBE | .ldBH
  | .ldBL | .ldBMhl | .ldBA | .ldCB | .ldCC | .ldCD | .ldCE | .ldCH
  | .ldCL | .ldCMhl | .ldCA | .ldDB | .ldDC | .ldDD | .ldDE | .ldDH
  | .ldDL | .ldDMhl | .ldDA | .ldEB | .ldEC | .ldED | .ldEE | .ldEH
  | .ldEL | .ldEMhl | .ldEA | .ldHB | .ldHC | .ldHD | .ldHE | .ldHH
  | .ldHL | .ldHMhl | .ldHA | .ldLB | .ldLC | .ldLD | .ldLE | .ldLH
  | .ldLL | .ldLMhl | .ldLA | .ldMhlB | .ldMhlC | .ldMhlD | .ldMhlE | .ldMhlH
  | .ldMhlL | .halt | .ldMhlA | .ldAB | .ldAC | .ldAD | .ldAE | .ldAH
  | .ldAL | .ldAMhl | .ldAA | .addAB | .addAC | .addAD | .addAE | .addAH
  | .addAL | .addAMhl | .addAA | .adcAB | .adcAC | .adcAD | .adcAE | .adcAH
  | .adcAL | .adcAMhl | .adcAA | .subB | .subC | .subD | .subE | .subH
  | .subL | .subMhl | .subA | .sbcAB | .sbcAC | .sbcAD | .sbcAE | .sbcAH
  | .sbcAL | .sbcAMhl | .sbcAA | .andB | .andC | .andD | .andE | .andH
  | .andL | .andMhl | .andA | .xorB | .xorC | .xorD | .xorE | .xorH
  | .xorL | .xorMhl | .xorA | .orB | .orC | .orD | .orE | .orH
  | .orL | .orMhl | .orA | .cpB | .cpC | .cpD | .cpE | .cpH
  | .cpL | .cpMhl | .cpA | .retNz | .popBc | .jpNzNn _ | .jpNn _ | .callNzNn _
  | .pushBc | .addAN _ | .rst00 | .retZ | .ret | .jpZNn _ | .callZNn _ | .callNn _
  | .adcAN _ | .rst08 | .retNc | .popDe | .jpNcNn _ | .invalidD3 | .callNcNn _ | .pushDe
  | .subN _ | .rst10 | .retC | .reti | .jpCNn _ | .invalidDB | .callCNn _ | .invalidDD
  | .sbcAN _ | .rst18 | .ldhMnA _ | .popHl | .ldhMcA | .invalidE3 | .invalidE4 | .pushHl
  | .andN _ | .rst20 | .jpHl | .ldMnnA _ | .invalidEB | .invalidEC | .invalidED | .xorN _
  | .rst28 | .ldhAMn _ | .popAf | .ldhAMc | .di | .invalidF4 | .pushAf | .orN _
  | .rst30 | .ldSpHl | .ldAMnn _ | .ei | .invalidFC | .invalidFD | .cpN _ | .rst38
  | .rlcB | .rlcC | .rlcD | .rlcE | .rlcH | .rlcL | .rlcMhl | .rlcA
  | .rrcB | .rrcC | .rrcD | .rrcE | .rrcH | .rrcL | .rrcMhl | .rrcA
  | .rlB | .rlC | .rlD | .rlE | .rlH | .rlL | .rlMhl | .rlA
  | .rrB | .rrC | .rrD | .rrE | .rrH | .rrL | .rrMhl | .rrA
  | .slaB | .slaC | .slaD | .slaE | .slaH | .slaL | .slaMhl | .slaA
  | .sraB | .sraC | .sraD | .sraE | .sraH | .sraL | .sraMhl | .sraA
  | .swapB | .swapC | .swapD | .swapE | .swapH | .swapL | .swapMhl | .swapA
  | .srlB | .srlC | .srlD | .srlE | .srlH | .srlL | .srlMhl | .srlA
  | .bit0B | .bit0C | .bit0D | .bit0E | .bit0H | .bit0L | .bit0Mhl | .bit0A
  | .bit1B | .bit1C | .bit1D | .bit1E | .bit1H | .bit1L | .bit1Mhl | .bit1A
  | .bit2B | .bit2C | .bit2D | .bit2E | .bit2H | .bit2L | .bit2Mhl | .bit2A
  | .bit3B | .bit3C | .bit3D | .bit3E | .bit3H | .bit3L | .bit3Mhl | .bit3A
  | .bit4B | .bit4C | .bit4D | .bit4E | .bit4H | .bit4L | .bit4Mhl | .bit4A
  | .bit5B | .bit5C | .bit5D | .bit5E | .bit5H | .bit5L | .bit5Mhl | .bit5A
  | .bit6B | .bit6C | .bit6D | .bit6E | .bit6H | .bit6L | .bit6Mhl | .bit6A
  | .bit7B | .bit7C | .bit7D | .bit7E | .bit7H | .bit7L | .bit7Mhl | .bit7A
  | .res0B | .res0C | .res0D | .res0E | .res0H | .res0L | .res0Mhl | .res0A
  | .res1B | .res1C | .res1D | .res1E | .res1H | .res1L | .res1Mhl | .res1A
  | .res2B | .res2C | .res2D | .res2E | .res2H | .res2L | .res2Mhl | .res2A
  | .res3B | .res3C | .res3D | .res3E | .res3H | .res3L | .res3Mhl | .res3A
  | .res4B | .res4C | .res4D | .res4E | .res4H | .res4L | .res4Mhl | .res4A
  | .res5B | .res5C | .res5D | .res5E | .res5H | .res5L | .res5Mhl | .res5A
  | .res6B | .res6C | .res6D | .res6E | .res6H | .res6L | .res6Mhl | .res6A
  | .res7B | .res7C | .res7D | .res7E | .res7H | .res7L | .res7Mhl | .res7A
  | .set0B | .set0C | .set0D | .set0E | .set0H | .set0L | .set0Mhl | .set0A
  | .set1B | .set1C | .set1D | .set1E | .set1H | .set1L | .set1Mhl | .set1A
  | .set2B | .set2C | .set2D | .set2E | .set2H | .set2L | .set2Mhl | .set2A
  | .set3B | .set3C | .set3D | .set3E | .set3H | .set3L | .set3Mhl | .set3A
  | .set4B | .set4C | .set4D | .set4E | .set4H | .set4L | .set4Mhl | .set4A
  | .set5B | .set5C | .set5D | .set5E | .set5H | .set5L | .set5Mhl | .set5A
  | .set6B | .set6C | .set6D | .set6E | .set6H | .set6L | .set6Mhl | .set6A
  | .set7B | .set7C | .set7D | .set7E | .set7H | .set7L | .set7Mhl | .set7A => none

/-- An instruction is well formed when its operands fit the fields of rules R220 and R223. -/
def Instr.wellFormed (i : Instr) : Bool :=
  match i.displacement? with
  | some e => dispFits e
  | none => true

end Sys2Proof
end

