-- ==== Sys2Proof/Decode.lean ====
section
/-! DEFINITION. Decoding and encoding (30_encoding.md rules R220-R236): the two opcode maps as
tables of sixteen rows, a decoder that is total on bytes, and an encoder written from the same maps. -/

namespace Sys2Proof

/-- Rule R220: the format of an opcode byte, with the instruction it makes of its operands. -/
inductive Entry where
  | plain (i : Instr)
  | imm8 (f : Byte → Instr)
  | disp (f : Int → Instr)
  | imm16 (f : Word → Instr)
  | cbPrefix

/-- Why a byte list is no instruction: it ends before the bytes of rule R220 do. Every opcode byte
and every CB second byte has a row (R230-R234; the illegal bytes of R232 are rows too). -/
inductive DecodeError where
  | noOpcode
  | missingOperand (op : Byte)
  deriving DecidableEq, Repr

/-- Rule R223: the byte of a displacement read as s8. -/
def dispOfByte (b : Byte) : Int := b.toInt

/-- Rule R223: the byte that encodes a displacement. -/
def byteOfDisp (e : Int) : Byte := BitVec.ofInt 8 e

/-- Rule R230, row 0x. -/
def baseRow0 : List Entry :=
  [.plain .nop, .imm16 .ldBcNn, .plain .ldMbcA, .plain .incBc,
   .plain .incB, .plain .decB, .imm8 .ldBN, .plain .rlca,
   .imm16 .ldMnnSp, .plain .addHlBc, .plain .ldAMbc, .plain .decBc,
   .plain .incC, .plain .decC, .imm8 .ldCN, .plain .rrca]

/-- Rule R230, row 1x. -/
def baseRow1 : List Entry :=
  [.imm8 .stop, .imm16 .ldDeNn, .plain .ldMdeA, .plain .incDe,
   .plain .incD, .plain .decD, .imm8 .ldDN, .plain .rla,
   .disp .jrE, .plain .addHlDe, .plain .ldAMde, .plain .decDe,
   .plain .incE, .plain .decE, .imm8 .ldEN, .plain .rra]

/-- Rule R230, row 2x. -/
def baseRow2 : List Entry :=
  [.disp .jrNzE, .imm16 .ldHlNn, .plain .ldMhliA, .plain .incHl,
   .plain .incH, .plain .decH, .imm8 .ldHN, .plain .daa,
   .disp .jrZE, .plain .addHlHl, .plain .ldAMhli, .plain .decHl,
   .plain .incL, .plain .decL, .imm8 .ldLN, .plain .cpl]

/-- Rule R230, row 3x. -/
def baseRow3 : List Entry :=
  [.disp .jrNcE, .imm16 .ldSpNn, .plain .ldMhldA, .plain .incSp,
   .plain .incMhl, .plain .decMhl, .imm8 .ldMhlN, .plain .scf,
   .disp .jrCE, .plain .addHlSp, .plain .ldAMhld, .plain .decSp,
   .plain .incA, .plain .decA, .imm8 .ldAN, .plain .ccf]

/-- Rule R230, row 4x. -/
def baseRow4 : List Entry :=
  [.plain .ldBB, .plain .ldBC, .plain .ldBD, .plain .ldBE,
   .plain .ldBH, .plain .ldBL, .plain .ldBMhl, .plain .ldBA,
   .plain .ldCB, .plain .ldCC, .plain .ldCD, .plain .ldCE,
   .plain .ldCH, .plain .ldCL, .plain .ldCMhl, .plain .ldCA]

/-- Rule R230, row 5x. -/
def baseRow5 : List Entry :=
  [.plain .ldDB, .plain .ldDC, .plain .ldDD, .plain .ldDE,
   .plain .ldDH, .plain .ldDL, .plain .ldDMhl, .plain .ldDA,
   .plain .ldEB, .plain .ldEC, .plain .ldED, .plain .ldEE,
   .plain .ldEH, .plain .ldEL, .plain .ldEMhl, .plain .ldEA]

/-- Rule R230, row 6x. -/
def baseRow6 : List Entry :=
  [.plain .ldHB, .plain .ldHC, .plain .ldHD, .plain .ldHE,
   .plain .ldHH, .plain .ldHL, .plain .ldHMhl, .plain .ldHA,
   .plain .ldLB, .plain .ldLC, .plain .ldLD, .plain .ldLE,
   .plain .ldLH, .plain .ldLL, .plain .ldLMhl, .plain .ldLA]

/-- Rule R230, row 7x. -/
def baseRow7 : List Entry :=
  [.plain .ldMhlB, .plain .ldMhlC, .plain .ldMhlD, .plain .ldMhlE,
   .plain .ldMhlH, .plain .ldMhlL, .plain .halt, .plain .ldMhlA,
   .plain .ldAB, .plain .ldAC, .plain .ldAD, .plain .ldAE,
   .plain .ldAH, .plain .ldAL, .plain .ldAMhl, .plain .ldAA]

/-- Rule R230, row 8x. -/
def baseRow8 : List Entry :=
  [.plain .addAB, .plain .addAC, .plain .addAD, .plain .addAE,
   .plain .addAH, .plain .addAL, .plain .addAMhl, .plain .addAA,
   .plain .adcAB, .plain .adcAC, .plain .adcAD, .plain .adcAE,
   .plain .adcAH, .plain .adcAL, .plain .adcAMhl, .plain .adcAA]

/-- Rule R230, row 9x. -/
def baseRow9 : List Entry :=
  [.plain .subB, .plain .subC, .plain .subD, .plain .subE,
   .plain .subH, .plain .subL, .plain .subMhl, .plain .subA,
   .plain .sbcAB, .plain .sbcAC, .plain .sbcAD, .plain .sbcAE,
   .plain .sbcAH, .plain .sbcAL, .plain .sbcAMhl, .plain .sbcAA]

/-- Rule R230, row Ax. -/
def baseRowA : List Entry :=
  [.plain .andB, .plain .andC, .plain .andD, .plain .andE,
   .plain .andH, .plain .andL, .plain .andMhl, .plain .andA,
   .plain .xorB, .plain .xorC, .plain .xorD, .plain .xorE,
   .plain .xorH, .plain .xorL, .plain .xorMhl, .plain .xorA]

/-- Rule R230, row Bx. -/
def baseRowB : List Entry :=
  [.plain .orB, .plain .orC, .plain .orD, .plain .orE,
   .plain .orH, .plain .orL, .plain .orMhl, .plain .orA,
   .plain .cpB, .plain .cpC, .plain .cpD, .plain .cpE,
   .plain .cpH, .plain .cpL, .plain .cpMhl, .plain .cpA]

/-- Rule R230, row Cx. -/
def baseRowC : List Entry :=
  [.plain .retNz, .plain .popBc, .imm16 .jpNzNn, .imm16 .jpNn,
   .imm16 .callNzNn, .plain .pushBc, .imm8 .addAN, .plain .rst00,
   .plain .retZ, .plain .ret, .imm16 .jpZNn, .cbPrefix,
   .imm16 .callZNn, .imm16 .callNn, .imm8 .adcAN, .plain .rst08]

/-- Rule R230, row Dx. -/
def baseRowD : List Entry :=
  [.plain .retNc, .plain .popDe, .imm16 .jpNcNn, .plain .invalidD3,
   .imm16 .callNcNn, .plain .pushDe, .imm8 .subN, .plain .rst10,
   .plain .retC, .plain .reti, .imm16 .jpCNn, .plain .invalidDB,
   .imm16 .callCNn, .plain .invalidDD, .imm8 .sbcAN, .plain .rst18]

/-- Rule R230, row Ex. -/
def baseRowE : List Entry :=
  [.imm8 .ldhMnA, .plain .popHl, .plain .ldhMcA, .plain .invalidE3,
   .plain .invalidE4, .plain .pushHl, .imm8 .andN, .plain .rst20,
   .disp .addSpE, .plain .jpHl, .imm16 .ldMnnA, .plain .invalidEB,
   .plain .invalidEC, .plain .invalidED, .imm8 .xorN, .plain .rst28]

/-- Rule R230, row Fx. -/
def baseRowF : List Entry :=
  [.imm8 .ldhAMn, .plain .popAf, .plain .ldhAMc, .plain .di,
   .plain .invalidF4, .plain .pushAf, .imm8 .orN, .plain .rst30,
   .disp .ldHlSpE, .plain .ldSpHl, .imm16 .ldAMnn, .plain .ei,
   .plain .invalidFC, .plain .invalidFD, .imm8 .cpN, .plain .rst38]

/-- Rule R230. -/
def baseRows : List (List Entry) :=
  [baseRow0, baseRow1, baseRow2, baseRow3, baseRow4, baseRow5, baseRow6, baseRow7,
   baseRow8, baseRow9, baseRowA, baseRowB, baseRowC, baseRowD, baseRowE, baseRowF]

/-- Rule R231, row 0x. -/
def cbRow0 : List Instr :=
  [.rlcB, .rlcC, .rlcD, .rlcE, .rlcH, .rlcL, .rlcMhl, .rlcA,
   .rrcB, .rrcC, .rrcD, .rrcE, .rrcH, .rrcL, .rrcMhl, .rrcA]

/-- Rule R231, row 1x. -/
def cbRow1 : List Instr :=
  [.rlB, .rlC, .rlD, .rlE, .rlH, .rlL, .rlMhl, .rlA,
   .rrB, .rrC, .rrD, .rrE, .rrH, .rrL, .rrMhl, .rrA]

/-- Rule R231, row 2x. -/
def cbRow2 : List Instr :=
  [.slaB, .slaC, .slaD, .slaE, .slaH, .slaL, .slaMhl, .slaA,
   .sraB, .sraC, .sraD, .sraE, .sraH, .sraL, .sraMhl, .sraA]

/-- Rule R231, row 3x. -/
def cbRow3 : List Instr :=
  [.swapB, .swapC, .swapD, .swapE, .swapH, .swapL, .swapMhl, .swapA,
   .srlB, .srlC, .srlD, .srlE, .srlH, .srlL, .srlMhl, .srlA]

/-- Rule R231, row 4x. -/
def cbRow4 : List Instr :=
  [.bit0B, .bit0C, .bit0D, .bit0E, .bit0H, .bit0L, .bit0Mhl, .bit0A,
   .bit1B, .bit1C, .bit1D, .bit1E, .bit1H, .bit1L, .bit1Mhl, .bit1A]

/-- Rule R231, row 5x. -/
def cbRow5 : List Instr :=
  [.bit2B, .bit2C, .bit2D, .bit2E, .bit2H, .bit2L, .bit2Mhl, .bit2A,
   .bit3B, .bit3C, .bit3D, .bit3E, .bit3H, .bit3L, .bit3Mhl, .bit3A]

/-- Rule R231, row 6x. -/
def cbRow6 : List Instr :=
  [.bit4B, .bit4C, .bit4D, .bit4E, .bit4H, .bit4L, .bit4Mhl, .bit4A,
   .bit5B, .bit5C, .bit5D, .bit5E, .bit5H, .bit5L, .bit5Mhl, .bit5A]

/-- Rule R231, row 7x. -/
def cbRow7 : List Instr :=
  [.bit6B, .bit6C, .bit6D, .bit6E, .bit6H, .bit6L, .bit6Mhl, .bit6A,
   .bit7B, .bit7C, .bit7D, .bit7E, .bit7H, .bit7L, .bit7Mhl, .bit7A]

/-- Rule R231, row 8x. -/
def cbRow8 : List Instr :=
  [.res0B, .res0C, .res0D, .res0E, .res0H, .res0L, .res0Mhl, .res0A,
   .res1B, .res1C, .res1D, .res1E, .res1H, .res1L, .res1Mhl, .res1A]

/-- Rule R231, row 9x. -/
def cbRow9 : List Instr :=
  [.res2B, .res2C, .res2D, .res2E, .res2H, .res2L, .res2Mhl, .res2A,
   .res3B, .res3C, .res3D, .res3E, .res3H, .res3L, .res3Mhl, .res3A]

/-- Rule R231, row Ax. -/
def cbRowA : List Instr :=
  [.res4B, .res4C, .res4D, .res4E, .res4H, .res4L, .res4Mhl, .res4A,
   .res5B, .res5C, .res5D, .res5E, .res5H, .res5L, .res5Mhl, .res5A]

/-- Rule R231, row Bx. -/
def cbRowB : List Instr :=
  [.res6B, .res6C, .res6D, .res6E, .res6H, .res6L, .res6Mhl, .res6A,
   .res7B, .res7C, .res7D, .res7E, .res7H, .res7L, .res7Mhl, .res7A]

/-- Rule R231, row Cx. -/
def cbRowC : List Instr :=
  [.set0B, .set0C, .set0D, .set0E, .set0H, .set0L, .set0Mhl, .set0A,
   .set1B, .set1C, .set1D, .set1E, .set1H, .set1L, .set1Mhl, .set1A]

/-- Rule R231, row Dx. -/
def cbRowD : List Instr :=
  [.set2B, .set2C, .set2D, .set2E, .set2H, .set2L, .set2Mhl, .set2A,
   .set3B, .set3C, .set3D, .set3E, .set3H, .set3L, .set3Mhl, .set3A]

/-- Rule R231, row Ex. -/
def cbRowE : List Instr :=
  [.set4B, .set4C, .set4D, .set4E, .set4H, .set4L, .set4Mhl, .set4A,
   .set5B, .set5C, .set5D, .set5E, .set5H, .set5L, .set5Mhl, .set5A]

/-- Rule R231, row Fx. -/
def cbRowF : List Instr :=
  [.set6B, .set6C, .set6D, .set6E, .set6H, .set6L, .set6Mhl, .set6A,
   .set7B, .set7C, .set7D, .set7E, .set7H, .set7L, .set7Mhl, .set7A]

/-- Rule R231. -/
def cbRows : List (List Instr) :=
  [cbRow0, cbRow1, cbRow2, cbRow3, cbRow4, cbRow5, cbRow6, cbRow7,
   cbRow8, cbRow9, cbRowA, cbRowB, cbRowC, cbRowD, cbRowE, cbRowF]

/-- Rule R230: the entry of an opcode byte. The defaults are never reached: every index is below 16. -/
def opcodeEntry (op : Byte) : Entry :=
  (baseRows.getD (op.toNat / 16) []).getD (op.toNat % 16) (.plain .nop)

/-- Rule R231: the instruction of a CB second byte. The defaults are never reached. -/
def cbInstr (op2 : Byte) : Instr :=
  (cbRows.getD (op2.toNat / 16) []).getD (op2.toNat % 16) .nop

/-- Rule R220: how many bytes an entry's instruction has. -/
def Entry.length : Entry → Nat
  | .plain _ => 1
  | .imm8 _ => 2
  | .disp _ => 2
  | .imm16 _ => 3
  | .cbPrefix => 2

/-- Rules R220, R223: the instruction of an entry and the two bytes after the opcode, of which it
uses the first `length - 1`; the low byte of `nn` comes first. -/
def Entry.build (n1 n2 : Byte) : Entry → Instr
  | .plain i => i
  | .imm8 f => f n1
  | .disp f => f (dispOfByte n1)
  | .imm16 f => f (wordOf n2 n1)
  | .cbPrefix => cbInstr n1

/-- Rules R220-R234: the instruction at the head of a byte list, and the bytes after it. -/
def decode : List Byte → Except DecodeError (Instr × List Byte)
  | [] => .error .noOpcode
  | op :: rest =>
    let entry := opcodeEntry op
    match entry.length, rest with
    | 1, rest => .ok (entry.build 0 0, rest)
    | 2, n1 :: rest => .ok (entry.build n1 0, rest)
    | 3, n1 :: n2 :: rest => .ok (entry.build n1 n2, rest)
    | _, _ => .error (.missingOperand op)

/-- Rules R220, R230, R231: the bytes of an instruction, in the order they stand in memory. -/
def encode : Instr → List Byte
  | .nop => [0x00]
  | .ldBcNn nn => [0x01, loByte nn, hiByte nn]
  | .ldMbcA => [0x02]
  | .incBc => [0x03]
  | .incB => [0x04]
  | .decB => [0x05]
  | .ldBN n => [0x06, n]
  | .rlca => [0x07]
  | .ldMnnSp nn => [0x08, loByte nn, hiByte nn]
  | .addHlBc => [0x09]
  | .ldAMbc => [0x0A]
  | .decBc => [0x0B]
  | .incC => [0x0C]
  | .decC => [0x0D]
  | .ldCN n => [0x0E, n]
  | .rrca => [0x0F]
  | .stop n => [0x10, n]
  | .ldDeNn nn => [0x11, loByte nn, hiByte nn]
  | .ldMdeA => [0x12]
  | .incDe => [0x13]
  | .incD => [0x14]
  | .decD => [0x15]
  | .ldDN n => [0x16, n]
  | .rla => [0x17]
  | .jrE e => [0x18, byteOfDisp e]
  | .addHlDe => [0x19]
  | .ldAMde => [0x1A]
  | .decDe => [0x1B]
  | .incE => [0x1C]
  | .decE => [0x1D]
  | .ldEN n => [0x1E, n]
  | .rra => [0x1F]
  | .jrNzE e => [0x20, byteOfDisp e]
  | .ldHlNn nn => [0x21, loByte nn, hiByte nn]
  | .ldMhliA => [0x22]
  | .incHl => [0x23]
  | .incH => [0x24]
  | .decH => [0x25]
  | .ldHN n => [0x26, n]
  | .daa => [0x27]
  | .jrZE e => [0x28, byteOfDisp e]
  | .addHlHl => [0x29]
  | .ldAMhli => [0x2A]
  | .decHl => [0x2B]
  | .incL => [0x2C]
  | .decL => [0x2D]
  | .ldLN n => [0x2E, n]
  | .cpl => [0x2F]
  | .jrNcE e => [0x30, byteOfDisp e]
  | .ldSpNn nn => [0x31, loByte nn, hiByte nn]
  | .ldMhldA => [0x32]
  | .incSp => [0x33]
  | .incMhl => [0x34]
  | .decMhl => [0x35]
  | .ldMhlN n => [0x36, n]
  | .scf => [0x37]
  | .jrCE e => [0x38, byteOfDisp e]
  | .addHlSp => [0x39]
  | .ldAMhld => [0x3A]
  | .decSp => [0x3B]
  | .incA => [0x3C]
  | .decA => [0x3D]
  | .ldAN n => [0x3E, n]
  | .ccf => [0x3F]
  | .ldBB => [0x40]
  | .ldBC => [0x41]
  | .ldBD => [0x42]
  | .ldBE => [0x43]
  | .ldBH => [0x44]
  | .ldBL => [0x45]
  | .ldBMhl => [0x46]
  | .ldBA => [0x47]
  | .ldCB => [0x48]
  | .ldCC => [0x49]
  | .ldCD => [0x4A]
  | .ldCE => [0x4B]
  | .ldCH => [0x4C]
  | .ldCL => [0x4D]
  | .ldCMhl => [0x4E]
  | .ldCA => [0x4F]
  | .ldDB => [0x50]
  | .ldDC => [0x51]
  | .ldDD => [0x52]
  | .ldDE => [0x53]
  | .ldDH => [0x54]
  | .ldDL => [0x55]
  | .ldDMhl => [0x56]
  | .ldDA => [0x57]
  | .ldEB => [0x58]
  | .ldEC => [0x59]
  | .ldED => [0x5A]
  | .ldEE => [0x5B]
  | .ldEH => [0x5C]
  | .ldEL => [0x5D]
  | .ldEMhl => [0x5E]
  | .ldEA => [0x5F]
  | .ldHB => [0x60]
  | .ldHC => [0x61]
  | .ldHD => [0x62]
  | .ldHE => [0x63]
  | .ldHH => [0x64]
  | .ldHL => [0x65]
  | .ldHMhl => [0x66]
  | .ldHA => [0x67]
  | .ldLB => [0x68]
  | .ldLC => [0x69]
  | .ldLD => [0x6A]
  | .ldLE => [0x6B]
  | .ldLH => [0x6C]
  | .ldLL => [0x6D]
  | .ldLMhl => [0x6E]
  | .ldLA => [0x6F]
  | .ldMhlB => [0x70]
  | .ldMhlC => [0x71]
  | .ldMhlD => [0x72]
  | .ldMhlE => [0x73]
  | .ldMhlH => [0x74]
  | .ldMhlL => [0x75]
  | .halt => [0x76]
  | .ldMhlA => [0x77]
  | .ldAB => [0x78]
  | .ldAC => [0x79]
  | .ldAD => [0x7A]
  | .ldAE => [0x7B]
  | .ldAH => [0x7C]
  | .ldAL => [0x7D]
  | .ldAMhl => [0x7E]
  | .ldAA => [0x7F]
  | .addAB => [0x80]
  | .addAC => [0x81]
  | .addAD => [0x82]
  | .addAE => [0x83]
  | .addAH => [0x84]
  | .addAL => [0x85]
  | .addAMhl => [0x86]
  | .addAA => [0x87]
  | .adcAB => [0x88]
  | .adcAC => [0x89]
  | .adcAD => [0x8A]
  | .adcAE => [0x8B]
  | .adcAH => [0x8C]
  | .adcAL => [0x8D]
  | .adcAMhl => [0x8E]
  | .adcAA => [0x8F]
  | .subB => [0x90]
  | .subC => [0x91]
  | .subD => [0x92]
  | .subE => [0x93]
  | .subH => [0x94]
  | .subL => [0x95]
  | .subMhl => [0x96]
  | .subA => [0x97]
  | .sbcAB => [0x98]
  | .sbcAC => [0x99]
  | .sbcAD => [0x9A]
  | .sbcAE => [0x9B]
  | .sbcAH => [0x9C]
  | .sbcAL => [0x9D]
  | .sbcAMhl => [0x9E]
  | .sbcAA => [0x9F]
  | .andB => [0xA0]
  | .andC => [0xA1]
  | .andD => [0xA2]
  | .andE => [0xA3]
  | .andH => [0xA4]
  | .andL => [0xA5]
  | .andMhl => [0xA6]
  | .andA => [0xA7]
  | .xorB => [0xA8]
  | .xorC => [0xA9]
  | .xorD => [0xAA]
  | .xorE => [0xAB]
  | .xorH => [0xAC]
  | .xorL => [0xAD]
  | .xorMhl => [0xAE]
  | .xorA => [0xAF]
  | .orB => [0xB0]
  | .orC => [0xB1]
  | .orD => [0xB2]
  | .orE => [0xB3]
  | .orH => [0xB4]
  | .orL => [0xB5]
  | .orMhl => [0xB6]
  | .orA => [0xB7]
  | .cpB => [0xB8]
  | .cpC => [0xB9]
  | .cpD => [0xBA]
  | .cpE => [0xBB]
  | .cpH => [0xBC]
  | .cpL => [0xBD]
  | .cpMhl => [0xBE]
  | .cpA => [0xBF]
  | .retNz => [0xC0]
  | .popBc => [0xC1]
  | .jpNzNn nn => [0xC2, loByte nn, hiByte nn]
  | .jpNn nn => [0xC3, loByte nn, hiByte nn]
  | .callNzNn nn => [0xC4, loByte nn, hiByte nn]
  | .pushBc => [0xC5]
  | .addAN n => [0xC6, n]
  | .rst00 => [0xC7]
  | .retZ => [0xC8]
  | .ret => [0xC9]
  | .jpZNn nn => [0xCA, loByte nn, hiByte nn]
  | .callZNn nn => [0xCC, loByte nn, hiByte nn]
  | .callNn nn => [0xCD, loByte nn, hiByte nn]
  | .adcAN n => [0xCE, n]
  | .rst08 => [0xCF]
  | .retNc => [0xD0]
  | .popDe => [0xD1]
  | .jpNcNn nn => [0xD2, loByte nn, hiByte nn]
  | .invalidD3 => [0xD3]
  | .callNcNn nn => [0xD4, loByte nn, hiByte nn]
  | .pushDe => [0xD5]
  | .subN n => [0xD6, n]
  | .rst10 => [0xD7]
  | .retC => [0xD8]
  | .reti => [0xD9]
  | .jpCNn nn => [0xDA, loByte nn, hiByte nn]
  | .invalidDB => [0xDB]
  | .callCNn nn => [0xDC, loByte nn, hiByte nn]
  | .invalidDD => [0xDD]
  | .sbcAN n => [0xDE, n]
  | .rst18 => [0xDF]
  | .ldhMnA n => [0xE0, n]
  | .popHl => [0xE1]
  | .ldhMcA => [0xE2]
  | .invalidE3 => [0xE3]
  | .invalidE4 => [0xE4]
  | .pushHl => [0xE5]
  | .andN n => [0xE6, n]
  | .rst20 => [0xE7]
  | .addSpE e => [0xE8, byteOfDisp e]
  | .jpHl => [0xE9]
  | .ldMnnA nn => [0xEA, loByte nn, hiByte nn]
  | .invalidEB => [0xEB]
  | .invalidEC => [0xEC]
  | .invalidED => [0xED]
  | .xorN n => [0xEE, n]
  | .rst28 => [0xEF]
  | .ldhAMn n => [0xF0, n]
  | .popAf => [0xF1]
  | .ldhAMc => [0xF2]
  | .di => [0xF3]
  | .invalidF4 => [0xF4]
  | .pushAf => [0xF5]
  | .orN n => [0xF6, n]
  | .rst30 => [0xF7]
  | .ldHlSpE e => [0xF8, byteOfDisp e]
  | .ldSpHl => [0xF9]
  | .ldAMnn nn => [0xFA, loByte nn, hiByte nn]
  | .ei => [0xFB]
  | .invalidFC => [0xFC]
  | .invalidFD => [0xFD]
  | .cpN n => [0xFE, n]
  | .rst38 => [0xFF]
  | .rlcB => [0xCB, 0x00]
  | .rlcC => [0xCB, 0x01]
  | .rlcD => [0xCB, 0x02]
  | .rlcE => [0xCB, 0x03]
  | .rlcH => [0xCB, 0x04]
  | .rlcL => [0xCB, 0x05]
  | .rlcMhl => [0xCB, 0x06]
  | .rlcA => [0xCB, 0x07]
  | .rrcB => [0xCB, 0x08]
  | .rrcC => [0xCB, 0x09]
  | .rrcD => [0xCB, 0x0A]
  | .rrcE => [0xCB, 0x0B]
  | .rrcH => [0xCB, 0x0C]
  | .rrcL => [0xCB, 0x0D]
  | .rrcMhl => [0xCB, 0x0E]
  | .rrcA => [0xCB, 0x0F]
  | .rlB => [0xCB, 0x10]
  | .rlC => [0xCB, 0x11]
  | .rlD => [0xCB, 0x12]
  | .rlE => [0xCB, 0x13]
  | .rlH => [0xCB, 0x14]
  | .rlL => [0xCB, 0x15]
  | .rlMhl => [0xCB, 0x16]
  | .rlA => [0xCB, 0x17]
  | .rrB => [0xCB, 0x18]
  | .rrC => [0xCB, 0x19]
  | .rrD => [0xCB, 0x1A]
  | .rrE => [0xCB, 0x1B]
  | .rrH => [0xCB, 0x1C]
  | .rrL => [0xCB, 0x1D]
  | .rrMhl => [0xCB, 0x1E]
  | .rrA => [0xCB, 0x1F]
  | .slaB => [0xCB, 0x20]
  | .slaC => [0xCB, 0x21]
  | .slaD => [0xCB, 0x22]
  | .slaE => [0xCB, 0x23]
  | .slaH => [0xCB, 0x24]
  | .slaL => [0xCB, 0x25]
  | .slaMhl => [0xCB, 0x26]
  | .slaA => [0xCB, 0x27]
  | .sraB => [0xCB, 0x28]
  | .sraC => [0xCB, 0x29]
  | .sraD => [0xCB, 0x2A]
  | .sraE => [0xCB, 0x2B]
  | .sraH => [0xCB, 0x2C]
  | .sraL => [0xCB, 0x2D]
  | .sraMhl => [0xCB, 0x2E]
  | .sraA => [0xCB, 0x2F]
  | .swapB => [0xCB, 0x30]
  | .swapC => [0xCB, 0x31]
  | .swapD => [0xCB, 0x32]
  | .swapE => [0xCB, 0x33]
  | .swapH => [0xCB, 0x34]
  | .swapL => [0xCB, 0x35]
  | .swapMhl => [0xCB, 0x36]
  | .swapA => [0xCB, 0x37]
  | .srlB => [0xCB, 0x38]
  | .srlC => [0xCB, 0x39]
  | .srlD => [0xCB, 0x3A]
  | .srlE => [0xCB, 0x3B]
  | .srlH => [0xCB, 0x3C]
  | .srlL => [0xCB, 0x3D]
  | .srlMhl => [0xCB, 0x3E]
  | .srlA => [0xCB, 0x3F]
  | .bit0B => [0xCB, 0x40]
  | .bit0C => [0xCB, 0x41]
  | .bit0D => [0xCB, 0x42]
  | .bit0E => [0xCB, 0x43]
  | .bit0H => [0xCB, 0x44]
  | .bit0L => [0xCB, 0x45]
  | .bit0Mhl => [0xCB, 0x46]
  | .bit0A => [0xCB, 0x47]
  | .bit1B => [0xCB, 0x48]
  | .bit1C => [0xCB, 0x49]
  | .bit1D => [0xCB, 0x4A]
  | .bit1E => [0xCB, 0x4B]
  | .bit1H => [0xCB, 0x4C]
  | .bit1L => [0xCB, 0x4D]
  | .bit1Mhl => [0xCB, 0x4E]
  | .bit1A => [0xCB, 0x4F]
  | .bit2B => [0xCB, 0x50]
  | .bit2C => [0xCB, 0x51]
  | .bit2D => [0xCB, 0x52]
  | .bit2E => [0xCB, 0x53]
  | .bit2H => [0xCB, 0x54]
  | .bit2L => [0xCB, 0x55]
  | .bit2Mhl => [0xCB, 0x56]
  | .bit2A => [0xCB, 0x57]
  | .bit3B => [0xCB, 0x58]
  | .bit3C => [0xCB, 0x59]
  | .bit3D => [0xCB, 0x5A]
  | .bit3E => [0xCB, 0x5B]
  | .bit3H => [0xCB, 0x5C]
  | .bit3L => [0xCB, 0x5D]
  | .bit3Mhl => [0xCB, 0x5E]
  | .bit3A => [0xCB, 0x5F]
  | .bit4B => [0xCB, 0x60]
  | .bit4C => [0xCB, 0x61]
  | .bit4D => [0xCB, 0x62]
  | .bit4E => [0xCB, 0x63]
  | .bit4H => [0xCB, 0x64]
  | .bit4L => [0xCB, 0x65]
  | .bit4Mhl => [0xCB, 0x66]
  | .bit4A => [0xCB, 0x67]
  | .bit5B => [0xCB, 0x68]
  | .bit5C => [0xCB, 0x69]
  | .bit5D => [0xCB, 0x6A]
  | .bit5E => [0xCB, 0x6B]
  | .bit5H => [0xCB, 0x6C]
  | .bit5L => [0xCB, 0x6D]
  | .bit5Mhl => [0xCB, 0x6E]
  | .bit5A => [0xCB, 0x6F]
  | .bit6B => [0xCB, 0x70]
  | .bit6C => [0xCB, 0x71]
  | .bit6D => [0xCB, 0x72]
  | .bit6E => [0xCB, 0x73]
  | .bit6H => [0xCB, 0x74]
  | .bit6L => [0xCB, 0x75]
  | .bit6Mhl => [0xCB, 0x76]
  | .bit6A => [0xCB, 0x77]
  | .bit7B => [0xCB, 0x78]
  | .bit7C => [0xCB, 0x79]
  | .bit7D => [0xCB, 0x7A]
  | .bit7E => [0xCB, 0x7B]
  | .bit7H => [0xCB, 0x7C]
  | .bit7L => [0xCB, 0x7D]
  | .bit7Mhl => [0xCB, 0x7E]
  | .bit7A => [0xCB, 0x7F]
  | .res0B => [0xCB, 0x80]
  | .res0C => [0xCB, 0x81]
  | .res0D => [0xCB, 0x82]
  | .res0E => [0xCB, 0x83]
  | .res0H => [0xCB, 0x84]
  | .res0L => [0xCB, 0x85]
  | .res0Mhl => [0xCB, 0x86]
  | .res0A => [0xCB, 0x87]
  | .res1B => [0xCB, 0x88]
  | .res1C => [0xCB, 0x89]
  | .res1D => [0xCB, 0x8A]
  | .res1E => [0xCB, 0x8B]
  | .res1H => [0xCB, 0x8C]
  | .res1L => [0xCB, 0x8D]
  | .res1Mhl => [0xCB, 0x8E]
  | .res1A => [0xCB, 0x8F]
  | .res2B => [0xCB, 0x90]
  | .res2C => [0xCB, 0x91]
  | .res2D => [0xCB, 0x92]
  | .res2E => [0xCB, 0x93]
  | .res2H => [0xCB, 0x94]
  | .res2L => [0xCB, 0x95]
  | .res2Mhl => [0xCB, 0x96]
  | .res2A => [0xCB, 0x97]
  | .res3B => [0xCB, 0x98]
  | .res3C => [0xCB, 0x99]
  | .res3D => [0xCB, 0x9A]
  | .res3E => [0xCB, 0x9B]
  | .res3H => [0xCB, 0x9C]
  | .res3L => [0xCB, 0x9D]
  | .res3Mhl => [0xCB, 0x9E]
  | .res3A => [0xCB, 0x9F]
  | .res4B => [0xCB, 0xA0]
  | .res4C => [0xCB, 0xA1]
  | .res4D => [0xCB, 0xA2]
  | .res4E => [0xCB, 0xA3]
  | .res4H => [0xCB, 0xA4]
  | .res4L => [0xCB, 0xA5]
  | .res4Mhl => [0xCB, 0xA6]
  | .res4A => [0xCB, 0xA7]
  | .res5B => [0xCB, 0xA8]
  | .res5C => [0xCB, 0xA9]
  | .res5D => [0xCB, 0xAA]
  | .res5E => [0xCB, 0xAB]
  | .res5H => [0xCB, 0xAC]
  | .res5L => [0xCB, 0xAD]
  | .res5Mhl => [0xCB, 0xAE]
  | .res5A => [0xCB, 0xAF]
  | .res6B => [0xCB, 0xB0]
  | .res6C => [0xCB, 0xB1]
  | .res6D => [0xCB, 0xB2]
  | .res6E => [0xCB, 0xB3]
  | .res6H => [0xCB, 0xB4]
  | .res6L => [0xCB, 0xB5]
  | .res6Mhl => [0xCB, 0xB6]
  | .res6A => [0xCB, 0xB7]
  | .res7B => [0xCB, 0xB8]
  | .res7C => [0xCB, 0xB9]
  | .res7D => [0xCB, 0xBA]
  | .res7E => [0xCB, 0xBB]
  | .res7H => [0xCB, 0xBC]
  | .res7L => [0xCB, 0xBD]
  | .res7Mhl => [0xCB, 0xBE]
  | .res7A => [0xCB, 0xBF]
  | .set0B => [0xCB, 0xC0]
  | .set0C => [0xCB, 0xC1]
  | .set0D => [0xCB, 0xC2]
  | .set0E => [0xCB, 0xC3]
  | .set0H => [0xCB, 0xC4]
  | .set0L => [0xCB, 0xC5]
  | .set0Mhl => [0xCB, 0xC6]
  | .set0A => [0xCB, 0xC7]
  | .set1B => [0xCB, 0xC8]
  | .set1C => [0xCB, 0xC9]
  | .set1D => [0xCB, 0xCA]
  | .set1E => [0xCB, 0xCB]
  | .set1H => [0xCB, 0xCC]
  | .set1L => [0xCB, 0xCD]
  | .set1Mhl => [0xCB, 0xCE]
  | .set1A => [0xCB, 0xCF]
  | .set2B => [0xCB, 0xD0]
  | .set2C => [0xCB, 0xD1]
  | .set2D => [0xCB, 0xD2]
  | .set2E => [0xCB, 0xD3]
  | .set2H => [0xCB, 0xD4]
  | .set2L => [0xCB, 0xD5]
  | .set2Mhl => [0xCB, 0xD6]
  | .set2A => [0xCB, 0xD7]
  | .set3B => [0xCB, 0xD8]
  | .set3C => [0xCB, 0xD9]
  | .set3D => [0xCB, 0xDA]
  | .set3E => [0xCB, 0xDB]
  | .set3H => [0xCB, 0xDC]
  | .set3L => [0xCB, 0xDD]
  | .set3Mhl => [0xCB, 0xDE]
  | .set3A => [0xCB, 0xDF]
  | .set4B => [0xCB, 0xE0]
  | .set4C => [0xCB, 0xE1]
  | .set4D => [0xCB, 0xE2]
  | .set4E => [0xCB, 0xE3]
  | .set4H => [0xCB, 0xE4]
  | .set4L => [0xCB, 0xE5]
  | .set4Mhl => [0xCB, 0xE6]
  | .set4A => [0xCB, 0xE7]
  | .set5B => [0xCB, 0xE8]
  | .set5C => [0xCB, 0xE9]
  | .set5D => [0xCB, 0xEA]
  | .set5E => [0xCB, 0xEB]
  | .set5H => [0xCB, 0xEC]
  | .set5L => [0xCB, 0xED]
  | .set5Mhl => [0xCB, 0xEE]
  | .set5A => [0xCB, 0xEF]
  | .set6B => [0xCB, 0xF0]
  | .set6C => [0xCB, 0xF1]
  | .set6D => [0xCB, 0xF2]
  | .set6E => [0xCB, 0xF3]
  | .set6H => [0xCB, 0xF4]
  | .set6L => [0xCB, 0xF5]
  | .set6Mhl => [0xCB, 0xF6]
  | .set6A => [0xCB, 0xF7]
  | .set7B => [0xCB, 0xF8]
  | .set7C => [0xCB, 0xF9]
  | .set7D => [0xCB, 0xFA]
  | .set7E => [0xCB, 0xFB]
  | .set7H => [0xCB, 0xFC]
  | .set7L => [0xCB, 0xFD]
  | .set7Mhl => [0xCB, 0xFE]
  | .set7A => [0xCB, 0xFF]

/-- Rule R220: the length of an instruction in bytes. -/
def Instr.length (i : Instr) : Nat := (encode i).length

/-- The bytes, first to last, of an instruction that the opcode table writes as the number `w` of
`nbits` bits, with zeros after them up to three bytes. Bit 0 of `w` is bit 0 of the first byte,
but the table writes the rows of the CB map with the prefix in the HIGH byte (`0xCB37` is 0xCB then
0x37), so a 16-bit number whose high byte is 0xCB is read that way (log 12). -/
def tableBytes (nbits w : Nat) : List Byte :=
  if nbits = 16 ∧ w / 256 % 256 = 0xCB then
    [0xCB, BitVec.ofNat 8 w, 0]
  else
    let v := w % 2 ^ nbits
    [BitVec.ofNat 8 v, BitVec.ofNat 8 (v / 256), BitVec.ofNat 8 (v / 65536)]

/-- The instruction the decoder reads from a row of the opcode table (log 12). -/
def decodeTableWord (nbits w : Nat) : Option Instr :=
  match decode (tableBytes nbits w) with
  | .ok (i, _) => some i
  | .error _ => none

end Sys2Proof
end

