-- ==== Sys2Proof/Config.lean ====
section
/-! DEFINITION. What the spec fixes for this machine as a number, and the free values it leaves open. -/

namespace Sys2Proof

/-- Rule R11 `draw()`: any byte, under no law. The n-th drawn value of a run is `freeByte n` for the
counter `State.draws` (log 1); it has no body, so nothing can be proved of its values. -/
opaque Config.freeByte : Nat → Byte

/-- Rules R7, R700: the master clock, in master cycles per emulated second. -/
def Config.clockFrequency : Nat := 4194304

/-- Rule R530: the master cycles of one frame. -/
def Config.frameCycles : Nat := 70224

/-- Rule R740: the largest cost of a step in master cycles, a HALT wake-up and a CALL (R691). -/
def Config.maxStepCost : Nat := 28

/-- Rule R532: the largest value a mode 3 penalty may take. -/
def Config.maxPenalty : Nat := 203

/-- Rule R170: the length from which a ROM image holds a whole header (R175). -/
def Config.headerEnd : Nat := 0x150

end Sys2Proof
end

