-- ==== Sys2Proof/Machine/State.lean ====
section
/-! DEFINITION. Everything the spec gives the machine, as plain data (10_state.md, with the mapper
state of 20_memory.md rule R178), the ways a step can stop, and the state after reset (R120-R123). -/

namespace Sys2Proof.Machine

/-- A sparse memory of bytes: pairs (offset, byte), offsets strictly rising, no zero byte listed. An
offset that is not listed reads as 0x00, the model's choice for `initial_memory` (R123, log 2). -/
abbrev Store := List Host.Cell

/-- Rule R40: the machine's only runtime fault (R440). -/
inductive Fault where
  /-- Raised by the step that fetches one of the eleven bytes of rule R232 (R407): `op` is the byte,
  `addr` the address it was fetched from. Safe: the spec gives exactly this fault. -/
  | invalidOpcode (op : Byte) (addr : Word)
  deriving DecidableEq, Repr

/-- Rule R11 `refuse`: accesses the model gives no meaning. -/
inductive Refusal where
  /-- An instruction without a meaning, by its mnemonic. Safe: nothing is claimed of it. -/
  | notModelled (mnemonic : String)
  /-- A CPU write below 0xFF00 while an OAM-DMA transfer is active (R515). Safe: the spec refuses it. -/
  | dmaBusConflict (addr : Word)
  /-- A CPU access to a CGB-only register in CGB mode (R93), or a write of SC bit 1 = 1 there (R47).
  Safe: the spec refuses it. -/
  | cgbRegister (addr : Word)
  /-- A CPU write to wave RAM while channel 3 is on (R645). Safe: the spec refuses it. -/
  | waveRamWhilePlaying (addr : Word)
  deriving DecidableEq, Repr

/-- Rule R3: the console variant, fixed for a run. -/
inductive ConsoleMode where
  | dmg | cgb | sgb
  deriving DecidableEq, Repr

/-- Rule R31: the four flags of F; its low nibble is always zero, so it has no storage (log 11). -/
structure Flags where
  z : Bool
  n : Bool
  h : Bool
  c : Bool
  deriving DecidableEq, Repr

/-- Rules R30-R39: the CPU's registers and hidden control state. -/
structure Cpu where
  a : Byte
  flags : Flags
  b : Byte
  c : Byte
  d : Byte
  e : Byte
  h : Byte
  l : Byte
  sp : Word
  pc : Word
  ime : Bool
  imeDelay : Bool
  halted : Bool
  haltBug : Bool
  stopped : Bool
  deriving DecidableEq, Repr

/-- Rules R41-R43: IE, and the five stored bits of IF. -/
structure Interrupts where
  ie : Byte
  iflag : BitVec 5
  deriving DecidableEq, Repr

/-- Rule R500: which of the eight buttons are pressed. -/
structure Buttons where
  right : Bool
  left : Bool
  up : Bool
  down : Bool
  a : Bool
  b : Bool
  select : Bool
  start : Bool
  deriving DecidableEq, Repr

/-- Rule R45, and the host input `buttons` (R701) as a schedule: from master cycle `t` on the buttons
are as the last entry with a time of at most `t` says, none pressed before the first (log 5). -/
structure Joypad where
  select : BitVec 2
  prev : BitVec 4
  schedule : List (Nat × Buttons)
  deriving DecidableEq, Repr

/-- Rule R490: the peer's incoming bit for one bit time, as a function of the bit shifted out. -/
structure PeerBit where
  ifLow : Bool
  ifHigh : Bool
  deriving DecidableEq, Repr

/-- Rules R46-R48: the serial unit (`active` is SC bit 7, `internal` SC bit 0), and the host input
`serial_peer`: its answers for the coming bit times, and the master cycles at which it supplies a
clock edge (R490, log 6). -/
structure Serial where
  sb : Byte
  active : Bool
  internal : Bool
  bits : Nat
  clock : Nat
  out : Bool
  peerBits : List PeerBit
  peerEdges : List Nat
  deriving DecidableEq, Repr

/-- Rules R49-R53: the timer. -/
structure Timer where
  sysclk : Word
  tima : Byte
  tma : Byte
  tac : BitVec 3
  reload : Nat
  inPrev : Bool
  deriving DecidableEq, Repr

/-- Rules R54, R55: the OAM-DMA unit. -/
structure Dma where
  reg : Byte
  active : Bool
  source : Word
  index : Nat
  sub : Nat
  deriving DecidableEq, Repr

/-- Rules R57, R64: the PPU modes. -/
inductive PpuMode where
  | hblank | vblank | oamScan | transfer
  deriving DecidableEq, Repr

/-- One RGB triple (R558). -/
structure Rgb where
  r : Byte
  g : Byte
  b : Byte
  deriving DecidableEq, Repr

/-- Rule R556: one colour per DMG shade. -/
structure Palette where
  c0 : Rgb
  c1 : Rgb
  c2 : Rgb
  c3 : Rgb
  deriving DecidableEq, Repr

/-- Rule R532: what the launch parameter `mode3_penalty` is a function of. -/
structure PenaltyKey where
  ly : Nat
  scx : Byte
  wx : Byte
  wy : Byte
  lcdc : Byte
  oam : Store
  deriving DecidableEq, Repr

/-- Rules R56-R64: the PPU registers and hidden state; `statSelect` is STAT bits 6-3. `penalties` is
the launch parameter `mode3_penalty` as a table, 0 where it has no entry (R532, log 4). -/
structure Ppu where
  lcdc : Byte
  statSelect : BitVec 4
  scy : Byte
  scx : Byte
  lyc : Byte
  bgp : Byte
  obp0 : Byte
  obp1 : Byte
  wy : Byte
  wx : Byte
  mode : PpuMode
  ly : Nat
  dot : Nat
  windowLine : Byte
  statLine : Bool
  lcdOn : Bool
  mode3Len : Nat
  lycMatch : Bool
  windowYHit : Bool
  frameComplete : Bool
  framebuffer : List (List Rgb)
  palette : Palette
  penalties : List (PenaltyKey × Nat)
  deriving DecidableEq, Repr

/-- Rules R71-R75, R90: a pulse channel (1 or 2). -/
structure Pulse where
  duty : BitVec 2
  envelope : Byte
  period : BitVec 11
  lenEn : Bool
  on : Bool
  length : Nat
  freqTimer : Nat
  dutyPos : Nat
  volume : Nat
  envTimer : Nat
  deriving DecidableEq, Repr

/-- Rules R70, R90: channel 1's sweep unit; `nr10` is NR10 bits 6-0. -/
structure Sweep where
  nr10 : BitVec 7
  shadow : BitVec 11
  timer : Nat
  enabled : Bool
  negated : Bool
  deriving DecidableEq, Repr

/-- Rules R76-R80, R90: the wave channel (3); `dacOn` is NR30 bit 7, `level` NR32 bits 6-5. -/
structure Wave where
  dacOn : Bool
  level : BitVec 2
  period : BitVec 11
  lenEn : Bool
  on : Bool
  length : Nat
  freqTimer : Nat
  pos : Nat
  sample : BitVec 4
  deriving DecidableEq, Repr

/-- Rules R81-R84, R90: the noise channel (4); `envelope` is NR42, `control` NR43. -/
structure Noise where
  envelope : Byte
  control : Byte
  lenEn : Bool
  on : Bool
  length : Nat
  freqTimer : Nat
  volume : Nat
  envTimer : Nat
  lfsr : BitVec 15
  deriving DecidableEq, Repr

/-- Rules R70-R90, R670: the APU. -/
structure Apu where
  ch1 : Pulse
  ch2 : Pulse
  sweep : Sweep
  ch3 : Wave
  ch4 : Noise
  nr50 : Byte
  nr51 : Byte
  power : Bool
  fsCounter : Nat
  fsStep : Nat
  sampleRate : Nat
  sampleAcc : Nat
  samples : List (Nat × Nat)
  deriving DecidableEq, Repr

/-- Rule R193: the RTC registers; `day` is DH bit 0 above DL, `halt` and `carry` are DH bits 6 and 7. -/
structure Rtc where
  sec : BitVec 6
  min : BitVec 6
  hour : BitVec 5
  day : BitVec 9
  halt : Bool
  carry : Bool
  deriving DecidableEq, Repr

/-- Rule R178, MBC1. -/
structure Mbc1 where
  ramEnable : Bool
  bank1 : BitVec 5
  bank2 : BitVec 2
  mode1 : Bool
  deriving DecidableEq, Repr

/-- Rule R178, MBC2; its RAM is the cartridge RAM store. -/
structure Mbc2 where
  ramEnable : Bool
  romBank : BitVec 4
  deriving DecidableEq, Repr

/-- Rule R178, MBC3; `hasRtc` says whether the cartridge type has the clock (R174). -/
structure Mbc3 where
  ramEnable : Bool
  romBank : BitVec 7
  select : Byte
  latchArmed : Bool
  rtc : Rtc
  latched : Rtc
  sub : Nat
  hasRtc : Bool
  deriving DecidableEq, Repr

/-- Rule R178, MBC5; `rumble` says whether the cartridge type has the motor (R174). -/
structure Mbc5 where
  ramEnable : Bool
  romBank : BitVec 9
  ramBank : BitVec 4
  rumble : Bool
  deriving DecidableEq, Repr

/-- Rules R174, R178: the mapper kinds with their state. -/
inductive Mapper where
  | none
  | mbc1 (m : Mbc1)
  | mbc2 (m : Mbc2)
  | mbc3 (m : Mbc3)
  | mbc5 (m : Mbc5)
  deriving DecidableEq, Repr

/-- Rules R172-R174, R178: the cartridge's sizes, fixed at load, and its mapper. -/
structure Cartridge where
  romBanks : Nat
  ramSize : Nat
  ramBanks : Nat
  battery : Bool
  mapper : Mapper
  deriving DecidableEq, Repr

/-- Rule R143: the storage behind the address space, one sparse store per region (log 18). WRAM bank k
stands at k * 0x1000; ROM and cartridge RAM are addressed by their offset in the chip. -/
structure Memory where
  rom : Store
  vram : Store
  wram : Store
  oam : Store
  hram : Store
  cartRam : Store
  waveRam : Store
  deriving DecidableEq, Repr

/-- Rule R94: the subsystem toggles (R699). -/
structure Enables where
  ppu : Bool
  apu : Bool
  dma : Bool
  timer : Bool
  serial : Bool
  deriving DecidableEq, Repr

/-- The whole machine. `stepCost` (log 10) and `draws` (log 1) are the model's own fields. -/
structure State where
  cpu : Cpu
  ints : Interrupts
  joypad : Joypad
  serial : Serial
  timer : Timer
  dma : Dma
  ppu : Ppu
  apu : Apu
  cart : Cartridge
  mem : Memory
  svbk : BitVec 3
  model : ConsoleMode
  enable : Enables
  cycles : Nat
  fault : Option Fault
  version : String
  stepCost : Nat
  draws : Nat
  deriving DecidableEq, Repr

/-- Rule R556: the default colours. -/
def Palette.greys : Palette where
  c0 := ⟨0xFF, 0xFF, 0xFF⟩
  c1 := ⟨0xAA, 0xAA, 0xAA⟩
  c2 := ⟨0x55, 0x55, 0x55⟩
  c3 := ⟨0x00, 0x00, 0x00⟩

/-- Rule R558: a framebuffer of one colour, 144 rows of 160 columns. -/
def blankFrame (c : Rgb) : List (List Rgb) := List.replicate 144 (List.replicate 160 c)

/-- Rules R120-R123, R178: the machine right after reset, in DMG mode with every launch parameter at
its default and a cartridge of 32 KiB of zero bytes, which is no program (log 3): F is 0x80, since
the header checksum byte is 0 (R120). -/
def State.reset : State where
  cpu :=
    { a := 0x01, flags := ⟨true, false, false, false⟩, b := 0x00, c := 0x13, d := 0x00, e := 0xD8
      h := 0x01, l := 0x4D, sp := 0xFFFE, pc := 0x0100, ime := false, imeDelay := false
      halted := false, haltBug := false, stopped := false }
  ints := { ie := 0x00, iflag := 0b00001 }
  joypad := { select := 0b00, prev := 0xF, schedule := [] }
  serial :=
    { sb := 0x00, active := false, internal := false, bits := 0, clock := 0, out := false
      peerBits := [], peerEdges := [] }
  timer := { sysclk := 0xABCC, tima := 0x00, tma := 0x00, tac := 0b000, reload := 0, inPrev := false }
  dma := { reg := 0xFF, active := false, source := 0x0000, index := 0, sub := 0 }
  ppu :=
    { lcdc := 0x91, statSelect := 0b0000, scy := 0x00, scx := 0x00, lyc := 0x00, bgp := 0xFC
      obp0 := 0xFF, obp1 := 0xFF, wy := 0x00, wx := 0x00, mode := .oamScan, ly := 0, dot := 0
      windowLine := 0, statLine := false, lcdOn := true, mode3Len := 172, lycMatch := true
      windowYHit := false, frameComplete := false, framebuffer := blankFrame Palette.greys.c0
      palette := Palette.greys, penalties := [] }
  apu :=
    { ch1 :=
        { duty := 0b10, envelope := 0xF3, period := 0, lenEn := false, on := true, length := 0
          freqTimer := 0, dutyPos := 0, volume := 0, envTimer := 0 }
      ch2 :=
        { duty := 0b00, envelope := 0x00, period := 0, lenEn := false, on := false, length := 0
          freqTimer := 0, dutyPos := 0, volume := 0, envTimer := 0 }
      sweep := { nr10 := 0, shadow := 0, timer := 0, enabled := false, negated := false }
      ch3 :=
        { dacOn := false, level := 0b00, period := 0, lenEn := false, on := false, length := 0
          freqTimer := 0, pos := 0, sample := 0 }
      ch4 :=
        { envelope := 0x00, control := 0x00, lenEn := false, on := false, length := 0
          freqTimer := 0, volume := 0, envTimer := 0, lfsr := 0x7FFF }
      nr50 := 0x77, nr51 := 0xF3, power := true, fsCounter := 0, fsStep := 0
      sampleRate := 44100, sampleAcc := 0, samples := [] }
  cart := { romBanks := 2, ramSize := 0, ramBanks := 0, battery := false, mapper := .none }
  mem :=
    { rom := [], vram := [], wram := [], oam := [], hram := [], cartRam := [], waveRam := [] }
  svbk := 1
  model := .dmg
  enable := { ppu := true, apu := true, dma := true, timer := true, serial := true }
  cycles := 0
  fault := none
  version := "CORE"
  stepCost := 0
  draws := 0

end Sys2Proof.Machine
end

