-- ==== Sys2Proof/Machine/Bits.lean ====
section
/-! DEFINITION. Bit fields, sign extension and the truth values of bits (00_scope.md rule R9). -/

namespace Sys2Proof.Machine

/-- `b << k` of rule R9 for one bit of a byte. -/
def bitAt (b : Bool) (k : Nat) : Byte := if b then BitVec.ofNat 8 (2 ^ k) else 0

/-- One bit as a 0 or 1 (rule R9, "as integers"). -/
def bitNat (b : Bool) : Nat := if b then 1 else 0

/-- Rule R9 `sext_16` of a byte. -/
def sext16 (v : Byte) : Word := v.signExtend 16

/-- Rule R223: a displacement as the 16-bit value added modulo 65536. -/
def dispWord (e : Int) : Word := BitVec.ofInt 16 e

/-- Rule R223: the raw byte of a displacement, which the flags of ADD SP,e use (R343). -/
def dispByte (e : Int) : Byte := BitVec.ofInt 8 e

/-- Rule R9: a byte zero-extended into page 0xFF00 (R223). -/
def highPage (n : Byte) : Word := wordOf 0xFF n

/-- Rule R9: an address plus a count, modulo 65536. -/
def wordAdd (w : Word) (k : Nat) : Word := w + BitVec.ofNat 16 k

end Sys2Proof.Machine
end

