-- ==== Sys2Proof/Machine/IoMap.lean ====
section
/-! DEFINITION. The I/O register map (10_state.md rules R44, R91-R93). -/

namespace Sys2Proof.Machine

/-- Rule R44: the registers of the I/O block, with the two kinds of address that have none: unmapped
(R91) and CGB-only (R93). -/
inductive IoReg where
  | p1 | sb | sc | div | tima | tma | tac | iflag
  | nr10 | nr11 | nr12 | nr13 | nr14
  | nr21 | nr22 | nr23 | nr24
  | nr30 | nr31 | nr32 | nr33 | nr34
  | nr41 | nr42 | nr43 | nr44
  | nr50 | nr51 | nr52
  | wave (k : Nat)
  | lcdc | stat | scy | scx | ly | lyc | dma | bgp | obp0 | obp1 | wy | wx
  | svbk
  | cgbOnly
  | unmapped
  deriving DecidableEq, Repr

/-- Rule R44, addresses 0xFF00-0xFF0F. -/
def ioRow0 : List IoReg :=
  [.p1, .sb, .sc, .unmapped, .div, .tima, .tma, .tac,
   .unmapped, .unmapped, .unmapped, .unmapped, .unmapped, .unmapped, .unmapped, .iflag]

/-- Rule R44, addresses 0xFF10-0xFF1F. -/
def ioRow1 : List IoReg :=
  [.nr10, .nr11, .nr12, .nr13, .nr14, .unmapped, .nr21, .nr22,
   .nr23, .nr24, .nr30, .nr31, .nr32, .nr33, .nr34, .unmapped]

/-- Rule R44, addresses 0xFF20-0xFF2F. -/
def ioRow2 : List IoReg :=
  [.nr41, .nr42, .nr43, .nr44, .nr50, .nr51, .nr52, .unmapped,
   .unmapped, .unmapped, .unmapped, .unmapped, .unmapped, .unmapped, .unmapped, .unmapped]

/-- Rule R88, addresses 0xFF30-0xFF3F. -/
def ioRow3 : List IoReg := (List.range 16).map IoReg.wave

/-- Rules R44, R93, addresses 0xFF40-0xFF4F. -/
def ioRow4 : List IoReg :=
  [.lcdc, .stat, .scy, .scx, .ly, .lyc, .dma, .bgp,
   .obp0, .obp1, .wy, .wx, .unmapped, .cgbOnly, .unmapped, .cgbOnly]

/-- Rules R91, R93, addresses 0xFF50-0xFF5F. -/
def ioRow5 : List IoReg :=
  [.unmapped, .cgbOnly, .cgbOnly, .cgbOnly, .cgbOnly, .cgbOnly, .cgbOnly, .unmapped,
   .unmapped, .unmapped, .unmapped, .unmapped, .unmapped, .unmapped, .unmapped, .unmapped]

/-- Rules R91, R93, addresses 0xFF60-0xFF6F. -/
def ioRow6 : List IoReg :=
  [.unmapped, .unmapped, .unmapped, .unmapped, .unmapped, .unmapped, .unmapped, .unmapped,
   .cgbOnly, .cgbOnly, .cgbOnly, .cgbOnly, .cgbOnly, .unmapped, .unmapped, .unmapped]

/-- Rules R92, R93, addresses 0xFF70-0xFF7F. -/
def ioRow7 : List IoReg :=
  [.svbk, .unmapped, .unmapped, .unmapped, .unmapped, .unmapped, .cgbOnly, .cgbOnly,
   .unmapped, .unmapped, .unmapped, .unmapped, .unmapped, .unmapped, .unmapped, .unmapped]

/-- Rule R44. -/
def ioRows : List (List IoReg) :=
  [ioRow0, ioRow1, ioRow2, ioRow3, ioRow4, ioRow5, ioRow6, ioRow7]

/-- Rules R91-R93: the registers that exist in CGB mode only are unmapped in the other modes. -/
def IoReg.inMode (model : ConsoleMode) (r : IoReg) : IoReg :=
  match model with
  | .cgb => r
  | .dmg | .sgb => if r = .svbk ∨ r = .cgbOnly then .unmapped else r

/-- Rule R44: the register at an address of 0xFF00-0xFF7F. -/
def ioReg (model : ConsoleMode) (addr : Word) : IoReg :=
  let k := addr.toNat - 0xFF00
  ((ioRows.getD (k / 16) []).getD (k % 16) .unmapped).inMode model

end Sys2Proof.Machine
end

