-- ==== Sys2Proof/Machine/Store.lean ====
section
/-! DEFINITION. The sparse byte stores behind the address space (20_memory.md rules R143, R144): one
read, one write, and the canonical form both keep (log 2, log 18). -/

namespace Sys2Proof.Machine

/-- What a byte that is not listed holds: the model's choice for `initial_memory` (R123, log 2). -/
def Store.blank : Byte := 0x00

/-- The byte at an offset. -/
def Store.read : Store → Nat → Byte
  | [], _ => Store.blank
  | (k, w) :: m, a => if k = a then w else Store.read m a

/-- An entry put before a list, or left out when it says nothing. -/
def Store.put (a : Nat) (v : Byte) (m : Store) : Store :=
  if v = Store.blank then m else (a, v) :: m

/-- Writes the byte at an offset, keeping the offsets rising and no blank entry. -/
def Store.write : Store → Nat → Byte → Store
  | [], a, v => Store.put a v []
  | (k, w) :: m, a, v =>
    if a < k then Store.put a v ((k, w) :: m)
    else if a = k then Store.put a v m
    else (k, w) :: Store.write m a v

/-- The canonical form from an offset on: offsets at least `lo`, strictly rising, no blank entry. -/
def Store.wfFrom : Nat → Store → Bool
  | _, [] => true
  | lo, (k, w) :: m => decide (lo ≤ k) && decide (w ≠ Store.blank) && Store.wfFrom (k + 1) m

/-- The canonical form of a store: equal contents are then equal lists. -/
def Store.wf (m : Store) : Bool := Store.wfFrom 0 m

/-- A run of bytes written from an offset up. -/
def Store.writeList : Store → Nat → List Byte → Store
  | m, _, [] => m
  | m, a, v :: vs => Store.writeList (Store.write m a v) (a + 1) vs

/-- Every store of the machine is in canonical form. -/
def Memory.wf (m : Memory) : Bool :=
  Store.wf m.rom && Store.wf m.vram && Store.wf m.wram && Store.wf m.oam && Store.wf m.hram &&
    Store.wf m.cartRam && Store.wf m.waveRam

end Sys2Proof.Machine
end

