-- ==== Sys2Proof/Machine/Apu.lean ====
section
/-! DEFINITION. The APU: frame sequencer, four channels, mixer and sample stream
(65_apu.md rules R600-R681). -/

namespace Sys2Proof.Machine

/-- Rule R9: bits 10-8 of a period replaced. -/
def periodHigh (period : BitVec 11) (v : Byte) : BitVec 11 := v.extractLsb' 0 3 ++ period.extractLsb' 0 8

/-- Rule R609: bits 7-0 of a period replaced. -/
def periodLow (period : BitVec 11) (v : Byte) : BitVec 11 := period.extractLsb' 8 3 ++ v

/-- Rule R611: the DAC condition of NR12, NR22 and NR42. -/
def envelopeDac (nr2 : Byte) : Bool := nr2.extractLsb' 3 5 != 0

/-- Rule R611. -/
def Pulse.dac (c : Pulse) : Bool := envelopeDac c.envelope

/-- Rule R611. -/
def Noise.dac (c : Noise) : Bool := envelopeDac c.envelope

/-- Rules R72, R608: the initial volume. -/
def envelopeVolume (nr2 : Byte) : Nat := (nr2.extractLsb' 4 4).toNat

/-- Rules R72, R620: the envelope pace. -/
def envelopePace (nr2 : Byte) : Nat := (nr2.extractLsb' 0 3).toNat

/-- Rule R622: a pulse waveform step in master cycles. -/
def pulsePeriod (period : BitVec 11) : Nat := (2048 - period.toNat) * 4

/-- Rule R640: a wave sample step in master cycles. -/
def wavePeriod (period : BitVec 11) : Nat := (2048 - period.toNat) * 2

/-- Rule R650: `noise_period`. -/
def noisePeriod (nr43 : Byte) : Nat :=
  let r := (nr43.extractLsb' 0 3).toNat
  (if r = 0 then 8 else 16 * r) * 2 ^ (nr43.extractLsb' 4 4).toNat

/-- Rule R605: a length counter and channel flag after one length clock. -/
def lengthClock (lenEn on : Bool) (length : Nat) : Nat × Bool :=
  if lenEn && length != 0 then (length - 1, on && length - 1 != 0) else (length, on)

/-- Rules R607, R608: the extra length clock of an NRx4 write `v` that turns the length enable on. -/
def extraClock (oldEn fsOdd on : Bool) (length : Nat) (v : Byte) : Nat × Bool :=
  if !oldEn && v.getLsbD 6 && fsOdd && length != 0 then
    (length - 1, on && (length - 1 != 0 || v.getLsbD 7))
  else (length, on)

/-- Rule R608: the length a trigger leaves. -/
def triggerLength (full : Nat) (fsOdd : Bool) (length : Nat) (v : Byte) : Nat :=
  if length = 0 then (if v.getLsbD 6 && fsOdd then full - 1 else full) else length

/-- Rule R605. -/
def Pulse.clockLength (c : Pulse) : Pulse :=
  let r := lengthClock c.lenEn c.on c.length
  { c with length := r.1, on := r.2 }

/-- Rule R605. -/
def Wave.clockLength (c : Wave) : Wave :=
  let r := lengthClock c.lenEn c.on c.length
  { c with length := r.1, on := r.2 }

/-- Rule R605. -/
def Noise.clockLength (c : Noise) : Noise :=
  let r := lengthClock c.lenEn c.on c.length
  { c with length := r.1, on := r.2 }

/-- Rule R620: the volume and envelope timer after one envelope clock. -/
def envelopeClock (nr2 : Byte) (volume envTimer : Nat) : Nat × Nat :=
  let pace := envelopePace nr2
  if pace = 0 then (volume, envTimer)
  else if envTimer ≤ 1 then
    (if nr2.getLsbD 3 then (if volume < 15 then volume + 1 else volume) else volume - 1, pace)
  else (volume, envTimer - 1)

/-- Rule R620. -/
def Pulse.clockEnvelope (c : Pulse) : Pulse :=
  let r := envelopeClock c.envelope c.volume c.envTimer
  { c with volume := r.1, envTimer := r.2 }

/-- Rule R620. -/
def Noise.clockEnvelope (c : Noise) : Noise :=
  let r := envelopeClock c.envelope c.volume c.envTimer
  { c with volume := r.1, envTimer := r.2 }

/-- Rule R70: the sweep pace. -/
def Sweep.pace (s : Sweep) : Nat := (s.nr10.extractLsb' 4 3).toNat

/-- Rule R70: the sweep shift. -/
def Sweep.shift (s : Sweep) : Nat := (s.nr10.extractLsb' 0 3).toNat

/-- Rule R613: the period `sweep_calc` computes. -/
def Sweep.next (s : Sweep) : Nat :=
  let d := s.shadow.toNat / 2 ^ s.shift
  if s.nr10.getLsbD 3 then s.shadow.toNat - d else s.shadow.toNat + d

/-- Rule R613: the note `sweep_calc` takes of a decreasing calculation. -/
def Sweep.note (s : Sweep) : Sweep := { s with negated := s.negated || s.nr10.getLsbD 3 }

/-- Rules R612, R614: the timer's reload value. -/
def Sweep.reload (s : Sweep) : Nat := if s.pace = 0 then 8 else s.pace

/-- Rule R613: an overflow turns channel 1 off. -/
def Pulse.checkSweep (c : Pulse) (next : Nat) : Pulse := { c with on := c.on && decide (next ≤ 2047) }

/-- Rule R612: `sweep_init`. -/
def sweepInit (s : Sweep) (c : Pulse) : Sweep × Pulse :=
  let t := { s with
    shadow := c.period, timer := s.reload, enabled := s.pace != 0 || s.shift != 0, negated := false }
  if s.shift = 0 then (t, c) else (t.note, c.checkSweep t.next)

/-- Rule R614: a sweep iteration, once the timer has run out. -/
def sweepIterate (s : Sweep) (c : Pulse) : Sweep × Pulse :=
  let t := s.note
  let c1 := c.checkSweep t.next
  if t.next ≤ 2047 ∧ t.shift ≠ 0 then
    let p := BitVec.ofNat 11 t.next
    let u := { t with shadow := p }
    (u.note, Pulse.checkSweep { c1 with period := p } u.next)
  else (t, c1)

/-- Rule R614: the sweep clock. -/
def sweepClock (s : Sweep) (c : Pulse) : Sweep × Pulse :=
  if s.timer ≤ 1 then
    let t := { s with timer := s.reload }
    if t.enabled && t.pace != 0 then sweepIterate t c else (t, c)
  else ({ s with timer := s.timer - 1 }, c)

/-- Rule R621: whether a duty waveform is high at a position. -/
def dutyHigh (duty : BitVec 2) (pos : Nat) : Bool :=
  let pattern := match duty.toNat with
    | 0 => [false, false, false, false, false, false, false, true]
    | 1 => [true, false, false, false, false, false, false, true]
    | 2 => [true, false, false, false, false, true, true, true]
    | _ => [false, true, true, true, true, true, true, false]
  pattern.getD pos false

/-- Rule R622. -/
def Pulse.timerTick (c : Pulse) : Pulse :=
  if c.freqTimer ≤ 1 then
    { c with freqTimer := pulsePeriod c.period, dutyPos := (c.dutyPos + 1) % 8 }
  else { c with freqTimer := c.freqTimer - 1 }

/-- Rule R623. -/
def Pulse.amp (c : Pulse) : Nat :=
  if c.on && c.dac && dutyHigh c.duty c.dutyPos then c.volume else 0

/-- Rule R88: the 4-bit sample at a position of wave RAM. -/
def waveSample (ram : Store) (pos : Nat) : BitVec 4 :=
  let b := Store.read ram (pos / 2)
  if pos % 2 = 0 then b.extractLsb' 4 4 else b.extractLsb' 0 4

/-- Rule R640. -/
def Wave.timerTick (ram : Store) (c : Wave) : Wave :=
  if c.freqTimer ≤ 1 then
    let pos := (c.pos + 1) % 32
    { c with freqTimer := wavePeriod c.period, pos := pos, sample := waveSample ram pos }
  else { c with freqTimer := c.freqTimer - 1 }

/-- Rule R641. -/
def Wave.amp (c : Wave) : Nat :=
  if c.on && c.dacOn then
    match c.level.toNat with
    | 0 => 0
    | 1 => c.sample.toNat
    | 2 => c.sample.toNat / 2
    | _ => c.sample.toNat / 4
  else 0

/-- Rule R650: one LFSR step; in 7-bit mode bit 6 takes the feedback too. -/
def lfsrStep (narrow : Bool) (l : BitVec 15) : BitVec 15 :=
  let b : BitVec 1 := BitVec.ofBool (l.getLsbD 0 ^^ l.getLsbD 1)
  if narrow then b ++ l.extractLsb' 8 7 ++ b ++ l.extractLsb' 1 6
  else b ++ l.extractLsb' 1 14

/-- Rule R650. -/
def Noise.timerTick (c : Noise) : Noise :=
  if c.freqTimer ≤ 1 then
    { c with
      freqTimer := noisePeriod c.control
      lfsr :=
        if (c.control.extractLsb' 4 4).toNat < 14 then lfsrStep (c.control.getLsbD 3) c.lfsr
        else c.lfsr }
  else { c with freqTimer := c.freqTimer - 1 }

/-- Rule R651. -/
def Noise.amp (c : Noise) : Nat := if c.on && c.dac && !c.lfsr.getLsbD 0 then c.volume else 0

/-- Rule R603: the units a frame-sequencer step clocks. -/
def Apu.fsClock (a : Apu) : Apu :=
  let a1 := if a.fsStep % 2 = 0 then
      { a with
        ch1 := a.ch1.clockLength, ch2 := a.ch2.clockLength
        ch3 := a.ch3.clockLength, ch4 := a.ch4.clockLength }
    else a
  let a2 := if a.fsStep = 2 ∨ a.fsStep = 6 then
      let r := sweepClock a1.sweep a1.ch1
      { a1 with sweep := r.1, ch1 := r.2 }
    else a1
  if a.fsStep = 7 then
    { a2 with
      ch1 := a2.ch1.clockEnvelope, ch2 := a2.ch2.clockEnvelope, ch4 := a2.ch4.clockEnvelope }
  else a2

/-- Rules R600, R603: the frame sequencer's part of a tick. -/
def Apu.sequence (a : Apu) : Apu :=
  if a.fsCounter + 1 = 8192 then
    { a.fsClock with fsCounter := 0, fsStep := (a.fsStep + 1) % 8 }
  else { a with fsCounter := a.fsCounter + 1 }

/-- Rules R600, R622, R640, R650: the channel timers. -/
def Apu.channels (ram : Store) (a : Apu) : Apu :=
  { a with
    ch1 := a.ch1.timerTick, ch2 := a.ch2.timerTick
    ch3 := a.ch3.timerTick ram, ch4 := a.ch4.timerTick }

/-- Rule R660: the amplitudes panned to one side, by the four NR51 bits from `base` up. -/
def Apu.panned (a : Apu) (base : Nat) : Nat :=
  (if a.nr51.getLsbD base then a.ch1.amp else 0) +
    (if a.nr51.getLsbD (base + 1) then a.ch2.amp else 0) +
    (if a.nr51.getLsbD (base + 2) then a.ch3.amp else 0) +
    (if a.nr51.getLsbD (base + 3) then a.ch4.amp else 0)

/-- Rule R660: the left output, 0 while the APU is off. -/
def Apu.left (a : Apu) : Nat :=
  if a.power then a.panned 4 * ((a.nr50.extractLsb' 4 3).toNat + 1) else 0

/-- Rule R660: the right output, 0 while the APU is off. -/
def Apu.right (a : Apu) : Nat :=
  if a.power then a.panned 0 * ((a.nr50.extractLsb' 0 3).toNat + 1) else 0

/-- Rule R670: `output_tick`. -/
def Apu.output (a : Apu) : Apu :=
  if Config.clockFrequency ≤ a.sampleAcc + a.sampleRate then
    { a with
      sampleAcc := a.sampleAcc + a.sampleRate - Config.clockFrequency
      samples := a.samples ++ [(a.left, a.right)] }
  else { a with sampleAcc := a.sampleAcc + a.sampleRate }

/-- Rule R600: `apu_tick`. -/
def Apu.tick (ram : Store) (a : Apu) : Apu :=
  Apu.output (if a.power then a.sequence.channels ram else a)

/-- Rules R603, R607: the next frame-sequencer step does not clock lengths. -/
def Apu.fsOdd (a : Apu) : Bool := a.fsStep % 2 == 1

/-- Rule R606: the length an NRx1 write loads. -/
def loadLength64 (v : Byte) : Nat := 64 - (v.extractLsb' 0 6).toNat

/-- Rule R606: the length an NR31 write loads. -/
def loadLength256 (v : Byte) : Nat := 256 - v.toNat

/-- Rules R606, R621: an NR11 or NR21 write. -/
def Pulse.writeLength (v : Byte) (c : Pulse) : Pulse :=
  { c with duty := v.extractLsb' 6 2, length := loadLength64 v }

/-- Rules R610, R611: an NR12 or NR22 write. -/
def Pulse.writeEnvelope (v : Byte) (c : Pulse) : Pulse :=
  { c with envelope := v, on := c.on && envelopeDac v }

/-- Rule R608: `trigger` of a pulse channel. -/
def Pulse.trigger (fsOdd : Bool) (v : Byte) (c : Pulse) : Pulse :=
  { c with
    on := c.dac
    length := triggerLength 64 fsOdd c.length v
    freqTimer := pulsePeriod c.period
    volume := envelopeVolume c.envelope
    envTimer := envelopePace c.envelope }

/-- Rules R607, R608: an NR14 or NR24 write without its trigger. -/
def Pulse.storeControl (fsOdd : Bool) (v : Byte) (c : Pulse) : Pulse :=
  let r := extraClock c.lenEn fsOdd c.on c.length v
  { c with lenEn := v.getLsbD 6, period := periodHigh c.period v, length := r.1, on := r.2 }

/-- Rule R608: an NR14 or NR24 write, channel 1's sweep apart. -/
def Pulse.writeControl (fsOdd : Bool) (v : Byte) (c : Pulse) : Pulse :=
  let s := c.storeControl fsOdd v
  if v.getLsbD 7 then s.trigger fsOdd v else s

/-- Rules R608, R612: an NR14 write. -/
def Apu.writeNr14 (v : Byte) (a : Apu) : Apu :=
  let c := a.ch1.writeControl a.fsOdd v
  if v.getLsbD 7 then
    let r := sweepInit a.sweep c
    { a with sweep := r.1, ch1 := r.2 }
  else { a with ch1 := c }

/-- Rule R615: an NR10 write. -/
def Apu.writeNr10 (v : Byte) (a : Apu) : Apu :=
  { a with
    sweep := { a.sweep with nr10 := v.extractLsb' 0 7 }
    ch1 := { a.ch1 with
      on := a.ch1.on && !(a.sweep.negated && a.sweep.nr10.getLsbD 3 && !v.getLsbD 3) } }

/-- Rules R76, R611: an NR30 write. -/
def Wave.writeDac (v : Byte) (c : Wave) : Wave :=
  { c with dacOn := v.getLsbD 7, on := c.on && v.getLsbD 7 }

/-- Rules R607, R608: an NR34 write without its trigger. -/
def Wave.storeControl (fsOdd : Bool) (v : Byte) (c : Wave) : Wave :=
  let r := extraClock c.lenEn fsOdd c.on c.length v
  { c with lenEn := v.getLsbD 6, period := periodHigh c.period v, length := r.1, on := r.2 }

/-- Rule R608: `trigger` of the wave channel. -/
def Wave.trigger (fsOdd : Bool) (v : Byte) (c : Wave) : Wave :=
  { c with
    on := c.dacOn
    length := triggerLength 256 fsOdd c.length v
    freqTimer := wavePeriod c.period
    pos := 0 }

/-- Rule R608: an NR34 write. -/
def Wave.writeControl (fsOdd : Bool) (v : Byte) (c : Wave) : Wave :=
  let s := c.storeControl fsOdd v
  if v.getLsbD 7 then s.trigger fsOdd v else s

/-- Rules R610, R611: an NR42 write. -/
def Noise.writeEnvelope (v : Byte) (c : Noise) : Noise :=
  { c with envelope := v, on := c.on && envelopeDac v }

/-- Rules R607, R608: an NR44 write without its trigger. -/
def Noise.storeControl (fsOdd : Bool) (v : Byte) (c : Noise) : Noise :=
  let r := extraClock c.lenEn fsOdd c.on c.length v
  { c with lenEn := v.getLsbD 6, length := r.1, on := r.2 }

/-- Rule R608: `trigger` of the noise channel. -/
def Noise.trigger (fsOdd : Bool) (v : Byte) (c : Noise) : Noise :=
  { c with
    on := c.dac
    length := triggerLength 64 fsOdd c.length v
    freqTimer := noisePeriod c.control
    lfsr := 0x7FFF
    volume := envelopeVolume c.envelope
    envTimer := envelopePace c.envelope }

/-- Rule R608: an NR44 write. -/
def Noise.writeControl (fsOdd : Bool) (v : Byte) (c : Noise) : Noise :=
  let s := c.storeControl fsOdd v
  if v.getLsbD 7 then s.trigger fsOdd v else s

/-- Rule R602: a pulse channel after power-off; its length counter is kept outside CGB mode. -/
def Pulse.powerOff (cgb : Bool) (c : Pulse) : Pulse :=
  { c with
    duty := 0, envelope := 0, period := 0, lenEn := false, on := false
    length := if cgb then 0 else c.length }

/-- Rule R602: the wave channel after power-off. -/
def Wave.powerOff (cgb : Bool) (c : Wave) : Wave :=
  { c with
    dacOn := false, level := 0, period := 0, lenEn := false, on := false
    length := if cgb then 0 else c.length }

/-- Rule R602: the noise channel after power-off. -/
def Noise.powerOff (cgb : Bool) (c : Noise) : Noise :=
  { c with
    envelope := 0, control := 0, lenEn := false, on := false
    length := if cgb then 0 else c.length }

/-- Rule R602: the power-off of NR52. -/
def Apu.powerOff (cgb : Bool) (a : Apu) : Apu :=
  { a with
    power := false, nr50 := 0, nr51 := 0
    ch1 := a.ch1.powerOff cgb, ch2 := a.ch2.powerOff cgb
    ch3 := a.ch3.powerOff cgb, ch4 := a.ch4.powerOff cgb
    sweep := { a.sweep with nr10 := 0 } }

/-- Rule R602: the power-on of NR52. -/
def Apu.powerOn (a : Apu) : Apu :=
  { a with
    power := true, fsCounter := 0, fsStep := 0
    ch1 := { a.ch1 with dutyPos := 0 }
    ch2 := { a.ch2 with dutyPos := 0 }
    ch3 := { a.ch3 with sample := 0 } }

/-- Rule R602: an NR52 write. -/
def Apu.writeNr52 (cgb : Bool) (v : Byte) (a : Apu) : Apu :=
  if a.power && !v.getLsbD 7 then a.powerOff cgb
  else if !a.power && v.getLsbD 7 then a.powerOn
  else a

/-- Rules R602, R606: a write to 0xFF10-0xFF25 while the APU is off; outside CGB mode the four length
registers still load their counters. -/
def Apu.writeOff (cgb : Bool) (r : IoReg) (v : Byte) (a : Apu) : Apu :=
  if cgb then a
  else
    match r with
    | .nr11 => { a with ch1 := { a.ch1 with length := loadLength64 v } }
    | .nr21 => { a with ch2 := { a.ch2 with length := loadLength64 v } }
    | .nr31 => { a with ch3 := { a.ch3 with length := loadLength256 v } }
    | .nr41 => { a with ch4 := { a.ch4 with length := loadLength64 v } }
    | _ => a

/-- Rule R680: a write to 0xFF10-0xFF25 while the APU is on. -/
def Apu.writeOn (r : IoReg) (v : Byte) (a : Apu) : Apu :=
  match r with
  | .nr10 => a.writeNr10 v
  | .nr11 => { a with ch1 := a.ch1.writeLength v }
  | .nr12 => { a with ch1 := a.ch1.writeEnvelope v }
  | .nr13 => { a with ch1 := { a.ch1 with period := periodLow a.ch1.period v } }
  | .nr14 => a.writeNr14 v
  | .nr21 => { a with ch2 := a.ch2.writeLength v }
  | .nr22 => { a with ch2 := a.ch2.writeEnvelope v }
  | .nr23 => { a with ch2 := { a.ch2 with period := periodLow a.ch2.period v } }
  | .nr24 => { a with ch2 := a.ch2.writeControl a.fsOdd v }
  | .nr30 => { a with ch3 := a.ch3.writeDac v }
  | .nr31 => { a with ch3 := { a.ch3 with length := loadLength256 v } }
  | .nr32 => { a with ch3 := { a.ch3 with level := v.extractLsb' 5 2 } }
  | .nr33 => { a with ch3 := { a.ch3 with period := periodLow a.ch3.period v } }
  | .nr34 => { a with ch3 := a.ch3.writeControl a.fsOdd v }
  | .nr41 => { a with ch4 := { a.ch4 with length := loadLength64 v } }
  | .nr42 => { a with ch4 := a.ch4.writeEnvelope v }
  | .nr43 => { a with ch4 := { a.ch4 with control := v } }
  | .nr44 => { a with ch4 := a.ch4.writeControl a.fsOdd v }
  | .nr50 => { a with nr50 := v }
  | .nr51 => { a with nr51 := v }
  | _ => a

/-- Rules R602, R680: a CPU write to an APU register. -/
def Apu.write (cgb : Bool) (r : IoReg) (v : Byte) (a : Apu) : Apu :=
  if r = .nr52 then a.writeNr52 cgb v
  else if a.power then a.writeOn r v
  else a.writeOff cgb r v

/-- Rule R87: an NR52 read. -/
def Apu.readNr52 (a : Apu) : Byte :=
  0x70 ||| bitAt a.power 7 ||| bitAt a.ch4.on 3 ||| bitAt a.ch3.on 2 ||| bitAt a.ch2.on 1 |||
    bitAt a.ch1.on 0

/-- Rules R89, R681: a CPU read of an APU register, its stored bits over its read mask. -/
def Apu.read (r : IoReg) (a : Apu) : Byte :=
  match r with
  | .nr10 => 0b1#1 ++ a.sweep.nr10
  | .nr11 => a.ch1.duty ++ 0x3F#6
  | .nr12 => a.ch1.envelope
  | .nr14 => 0xBF ||| bitAt a.ch1.lenEn 6
  | .nr21 => a.ch2.duty ++ 0x3F#6
  | .nr22 => a.ch2.envelope
  | .nr24 => 0xBF ||| bitAt a.ch2.lenEn 6
  | .nr30 => 0x7F ||| bitAt a.ch3.dacOn 7
  | .nr32 => 0b1#1 ++ a.ch3.level ++ 0x1F#5
  | .nr34 => 0xBF ||| bitAt a.ch3.lenEn 6
  | .nr42 => a.ch4.envelope
  | .nr43 => a.ch4.control
  | .nr44 => 0xBF ||| bitAt a.ch4.lenEn 6
  | .nr50 => a.nr50
  | .nr51 => a.nr51
  | .nr52 => a.readNr52
  | _ => 0xFF

end Sys2Proof.Machine
end

