-- ==== Sys2Proof/Machine/Cartridge.lean ====
section
/-! DEFINITION. The cartridge: ROM and RAM mapping, mapper control writes and the MBC3 clock
(20_memory.md rules R178-R201). -/

namespace Sys2Proof.Machine

/-- Rules R180, R189, R196: the value that enables cartridge RAM. -/
def ramEnableValue (v : Byte) : Bool := v.extractLsb' 0 4 == (0xA#4)

/-- Rule R184: the bank MBC1 maps at 0x0000-0x3FFF. -/
def Mbc1.lowBank (m : Mbc1) (banks : Nat) : Nat :=
  if m.mode1 then (m.bank2.toNat * 32) % banks else 0

/-- Rule R184: the bank MBC1 maps at 0x4000-0x7FFF. -/
def Mbc1.highBank (m : Mbc1) (banks : Nat) : Nat := (m.bank2.toNat * 32 + m.bank1.toNat) % banks

/-- Rules R179, R184, R187, R195, R199: the bank mapped at 0x0000-0x3FFF. -/
def Cartridge.lowBank (c : Cartridge) : Nat :=
  match c.mapper with
  | .mbc1 m => m.lowBank c.romBanks
  | .none | .mbc2 _ | .mbc3 _ | .mbc5 _ => 0

/-- Rules R179, R184, R187, R195, R199, R200: the bank mapped at 0x4000-0x7FFF. -/
def Cartridge.highBank (c : Cartridge) : Nat :=
  match c.mapper with
  | .none => 1
  | .mbc1 m => m.highBank c.romBanks
  | .mbc2 m => m.romBank.toNat % c.romBanks
  | .mbc3 m => m.romBank.toNat % c.romBanks
  | .mbc5 m => m.romBank.toNat % c.romBanks

/-- Rules R179, R200: the offset in the ROM image of an address below 0x8000. -/
def Cartridge.romOffset (c : Cartridge) (addr : Word) : Nat :=
  if addr.toNat < 0x4000 then c.lowBank * 0x4000 + addr.toNat
  else c.highBank * 0x4000 + (addr.toNat - 0x4000)

/-- Rule R191: the RTC registers by their select codes 0x08-0x0C. -/
inductive RtcReg where
  | seconds | minutes | hours | dayLow | dayHigh
  deriving DecidableEq, Repr

/-- Rule R191: the RTC register a select value names. -/
def rtcReg? (select : Byte) : Option RtcReg :=
  if select = 0x08 then some .seconds
  else if select = 0x09 then some .minutes
  else if select = 0x0A then some .hours
  else if select = 0x0B then some .dayLow
  else if select = 0x0C then some .dayHigh
  else none

/-- Rules R179, R185, R188, R191, R199, R201: what an address of 0xA000-0xBFFF reaches. -/
inductive RamTarget where
  | closed
  | byte (offset : Nat)
  | nibble (offset : Nat)
  | clock (r : RtcReg)
  deriving DecidableEq, Repr

/-- Rules R185, R200: a byte of a RAM bank, or nothing when there is no RAM (R201). -/
def Cartridge.bankByte (c : Cartridge) (bank : Nat) (addr : Word) : RamTarget :=
  if c.ramSize = 0 then .closed
  else .byte ((bank % c.ramBanks * 0x2000 + (addr.toNat - 0xA000)) % c.ramSize)

/-- Rules R191, R193, R195: what MBC3's select register names. -/
def Cartridge.mbc3Target (c : Cartridge) (m : Mbc3) (addr : Word) : RamTarget :=
  if m.select.toNat < 4 then c.bankByte m.select.toNat addr
  else if m.hasRtc then
    match rtcReg? m.select with
    | some r => .clock r
    | none => .closed
  else .closed

/-- Rules R179, R185, R188, R195, R199, R201. -/
def Cartridge.ramTarget (c : Cartridge) (addr : Word) : RamTarget :=
  match c.mapper with
  | .none => c.bankByte 0 addr
  | .mbc1 m =>
    if m.ramEnable then c.bankByte (if m.mode1 then m.bank2.toNat else 0) addr else .closed
  | .mbc2 m => if m.ramEnable then .nibble (addr.extractLsb' 0 9).toNat else .closed
  | .mbc3 m => if m.ramEnable then c.mbc3Target m addr else .closed
  | .mbc5 m => if m.ramEnable then c.bankByte m.ramBank.toNat addr else .closed

/-- Rule R193: a clock register as a byte; bits it does not store read 0. -/
def Rtc.read (t : Rtc) : RtcReg → Byte
  | .seconds => t.sec.zeroExtend 8
  | .minutes => t.min.zeroExtend 8
  | .hours => t.hour.zeroExtend 8
  | .dayLow => t.day.extractLsb' 0 8
  | .dayHigh => bitAt t.carry 7 ||| bitAt t.halt 6 ||| bitAt (t.day.getLsbD 8) 0

/-- Rule R193: a clock register written, masked to the bits it stores. -/
def Rtc.write (t : Rtc) (v : Byte) : RtcReg → Rtc
  | .seconds => { t with sec := v.extractLsb' 0 6 }
  | .minutes => { t with min := v.extractLsb' 0 6 }
  | .hours => { t with hour := v.extractLsb' 0 5 }
  | .dayLow => { t with day := t.day.extractLsb' 8 1 ++ v }
  | .dayHigh =>
    { t with
      day := v.extractLsb' 0 1 ++ t.day.extractLsb' 0 8
      halt := v.getLsbD 6
      carry := v.getLsbD 7 }

/-- Rule R193: a write to a selected clock register; one to S also clears `rtc_sub`. -/
def Mbc3.clockWrite (m : Mbc3) (r : RtcReg) (v : Byte) : Mbc3 :=
  { m with
    rtc := m.rtc.write v r
    sub := match r with
      | .seconds => 0
      | .minutes | .hours | .dayLow | .dayHigh => m.sub }

/-- Rule R193: the latched copy of a selected clock register. -/
def Cartridge.clockRead (c : Cartridge) (r : RtcReg) : Byte :=
  match c.mapper with
  | .mbc3 m => m.latched.read r
  | .none | .mbc1 _ | .mbc2 _ | .mbc5 _ => 0xFF

/-- Rule R193: the cartridge after a write to a selected clock register. -/
def Cartridge.clockWrite (c : Cartridge) (r : RtcReg) (v : Byte) : Cartridge :=
  match c.mapper with
  | .mbc3 m => { c with mapper := .mbc3 (m.clockWrite r v) }
  | .none | .mbc1 _ | .mbc2 _ | .mbc5 _ => c

/-- Rules R180-R183. -/
def Mbc1.control (m : Mbc1) (addr : Word) (v : Byte) : Mbc1 :=
  if addr.toNat < 0x2000 then { m with ramEnable := ramEnableValue v }
  else if addr.toNat < 0x4000 then
    { m with bank1 := if v.extractLsb' 0 5 = 0 then 1 else v.extractLsb' 0 5 }
  else if addr.toNat < 0x6000 then { m with bank2 := v.extractLsb' 0 2 }
  else { m with mode1 := v.getLsbD 0 }

/-- Rule R186. -/
def Mbc2.control (m : Mbc2) (addr : Word) (v : Byte) : Mbc2 :=
  if addr.toNat < 0x4000 then
    if addr.getLsbD 8 then { m with romBank := if v.extractLsb' 0 4 = 0 then 1 else v.extractLsb' 0 4 }
    else { m with ramEnable := ramEnableValue v }
  else m

/-- Rule R192: the latch. -/
def Mbc3.latch (m : Mbc3) (v : Byte) : Mbc3 :=
  if v = 0x00 then { m with latchArmed := true }
  else if v = 0x01 ∧ m.latchArmed = true then { m with latched := m.rtc, latchArmed := false }
  else { m with latchArmed := false }

/-- Rules R189-R192. -/
def Mbc3.control (m : Mbc3) (addr : Word) (v : Byte) : Mbc3 :=
  if addr.toNat < 0x2000 then { m with ramEnable := ramEnableValue v }
  else if addr.toNat < 0x4000 then
    { m with romBank := if v.extractLsb' 0 7 = 0 then 1 else v.extractLsb' 0 7 }
  else if addr.toNat < 0x6000 then { m with select := v }
  else m.latch v

/-- Rules R196-R198. -/
def Mbc5.control (m : Mbc5) (addr : Word) (v : Byte) : Mbc5 :=
  if addr.toNat < 0x2000 then { m with ramEnable := ramEnableValue v }
  else if addr.toNat < 0x3000 then { m with romBank := m.romBank.extractLsb' 8 1 ++ v }
  else if addr.toNat < 0x4000 then
    { m with romBank := v.extractLsb' 0 1 ++ m.romBank.extractLsb' 0 8 }
  else if addr.toNat < 0x6000 then
    { m with
      ramBank := if m.rumble then (v.extractLsb' 0 3).zeroExtend 4 else v.extractLsb' 0 4 }
  else m

/-- Rules R146, R179-R198: a CPU write below 0x8000. -/
def Cartridge.control (c : Cartridge) (addr : Word) (v : Byte) : Cartridge :=
  match c.mapper with
  | .none => c
  | .mbc1 m => { c with mapper := .mbc1 (m.control addr v) }
  | .mbc2 m => { c with mapper := .mbc2 (m.control addr v) }
  | .mbc3 m => { c with mapper := .mbc3 (m.control addr v) }
  | .mbc5 m => { c with mapper := .mbc5 (m.control addr v) }

/-- Rules R147, R179-R199: a byte of 0x0000-0x7FFF. -/
def romRead (c : Cartridge) (m : Memory) (addr : Word) : Byte := Store.read m.rom (c.romOffset addr)

/-- Rules R149, R188, R193, R201: a byte of 0xA000-0xBFFF. -/
def cartRamRead (c : Cartridge) (m : Memory) (addr : Word) : Byte :=
  match c.ramTarget addr with
  | .closed => 0xFF
  | .byte o => Store.read m.cartRam o
  | .nibble o => 0xF0 ||| Store.read m.cartRam o
  | .clock r => c.clockRead r

/-- Rules R149, R188, R201: the RAM contents after a CPU write to 0xA000-0xBFFF. -/
def cartRamStore (c : Cartridge) (ram : Store) (addr : Word) (v : Byte) : Store :=
  match c.ramTarget addr with
  | .closed | .clock _ => ram
  | .byte o => Store.write ram o v
  | .nibble o => Store.write ram o (v &&& 0x0F)

/-- Rule R193: the mapper after a CPU write to 0xA000-0xBFFF. -/
def cartRamControl (c : Cartridge) (addr : Word) (v : Byte) : Cartridge :=
  match c.ramTarget addr with
  | .closed | .byte _ | .nibble _ => c
  | .clock r => c.clockWrite r v

/-- Rule R194: one hour more. -/
def Rtc.addHour (t : Rtc) : Rtc :=
  if t.hour + 1 = 24 then
    { t with hour := 0, day := t.day + 1, carry := t.carry || t.day + 1 == 0 }
  else { t with hour := t.hour + 1 }

/-- Rule R194: one minute more. -/
def Rtc.addMinute (t : Rtc) : Rtc :=
  if t.min + 1 = 60 then Rtc.addHour { t with min := 0 } else { t with min := t.min + 1 }

/-- Rule R194: one second more; an out-of-range field wraps at its own width without a carry. -/
def Rtc.addSecond (t : Rtc) : Rtc :=
  if t.sec + 1 = 60 then Rtc.addMinute { t with sec := 0 } else { t with sec := t.sec + 1 }

/-- Rule R194: one master cycle of the clock. -/
def Mbc3.clockTick (m : Mbc3) : Mbc3 :=
  if m.rtc.halt then m
  else if m.sub + 1 = Config.clockFrequency then { m with sub := 0, rtc := m.rtc.addSecond }
  else { m with sub := m.sub + 1 }

/-- Rules R194, R690: `rtc_tick`, for the cartridge types with a clock only. -/
def Cartridge.rtcTick (c : Cartridge) : Cartridge :=
  match c.mapper with
  | .mbc3 m => if m.hasRtc then { c with mapper := .mbc3 m.clockTick } else c
  | .none | .mbc1 _ | .mbc2 _ | .mbc5 _ => c

end Sys2Proof.Machine
end

