-- ==== Sys2Proof/Machine/Dma.lean ====
section
/-! DEFINITION. The OAM-DMA unit (63_oam_dma.md rules R510-R516). -/

namespace Sys2Proof.Machine

/-- Rules R151, R152: the WRAM bank mapped at 0xD000-0xDFFF. -/
def wramBank (model : ConsoleMode) (svbk : BitVec 3) : Nat :=
  match model with
  | .dmg | .sgb => 1
  | .cgb => if svbk = 0 then 1 else svbk.toNat

/-- Rules R150-R152: the place in the WRAM store of an address of 0xC000-0xDFFF. -/
def wramOffset (model : ConsoleMode) (svbk : BitVec 3) (addr : Word) : Nat :=
  if addr.toNat < 0xD000 then addr.toNat - 0xC000
  else wramBank model svbk * 0x1000 + (addr.toNat - 0xD000)

/-- Rules R511, R516: a write to the DMA register, which starts a transfer when the unit is enabled. -/
def Dma.trigger (enabled : Bool) (v : Byte) (d : Dma) : Dma :=
  if enabled then { reg := v, active := true, source := wordOf v 0, index := 0, sub := 0 }
  else { d with reg := v }

/-- Rule R512: `dma_read`, past the gates of the CPU's path. -/
def State.dmaRead (s : State) (addr : Word) : Byte :=
  let a := if 0xE000 ≤ addr.toNat then addr - 0x2000 else addr
  if a.toNat < 0x8000 then romRead s.cart s.mem a
  else if a.toNat < 0xA000 then Store.read s.mem.vram (a.toNat - 0x8000)
  else if a.toNat < 0xC000 then cartRamRead s.cart s.mem a
  else Store.read s.mem.wram (wramOffset s.model s.svbk a)

/-- Rule R513: one byte copied, and the index after it. -/
def State.dmaCopy (s : State) : State :=
  let v := s.dmaRead (wordAdd s.dma.source s.dma.index)
  { s with
    mem := { s.mem with oam := Store.write s.mem.oam s.dma.index v }
    dma := { s.dma with
      sub := 0
      index := s.dma.index + 1
      active := !(s.dma.index + 1 == 160) } }

/-- Rule R513: `dma_tick`. -/
def State.dmaTick (s : State) : State :=
  if !s.dma.active then s
  else if s.dma.sub + 1 = 4 then s.dmaCopy
  else { s with dma := { s.dma with sub := s.dma.sub + 1 } }

end Sys2Proof.Machine
end

