-- ==== Sys2Proof/Machine/Joypad.lean ====
section
/-! DEFINITION. The joypad register and its interrupt condition (62_serial_joypad.md rules R500-R502). -/

namespace Sys2Proof.Machine

/-- Rule R500: nothing pressed. -/
def Buttons.none : Buttons := ⟨false, false, false, false, false, false, false, false⟩

/-- Rule R701: the buttons at a master cycle (log 5). -/
def Joypad.buttonsAt (now : Nat) (j : Joypad) : Buttons :=
  j.schedule.foldl (fun held entry => if entry.1 ≤ now then entry.2 else held) Buttons.none

/-- Rule R500: the four input lines, 0 where a selected button is pressed. -/
def Joypad.lines (now : Nat) (j : Joypad) : BitVec 4 :=
  let held := j.buttonsAt now
  let dpad := !j.select.getLsbD 0
  let action := !j.select.getLsbD 1
  let line (d a : Bool) : BitVec 1 := BitVec.ofBool (!(dpad && d || action && a))
  line held.down held.start ++ line held.up held.select ++ line held.left held.b ++
    line held.right held.a

/-- Rule R500: `P1_read`. -/
def Joypad.read (now : Nat) (j : Joypad) : Byte := 0b11#2 ++ j.select ++ j.lines now

/-- Rule R500: a P1 write. -/
def Joypad.write (v : Byte) (j : Joypad) : Joypad := { j with select := v.extractLsb' 4 2 }

/-- Rule R501: the end-of-step sample, and whether it requests the Joypad interrupt. -/
def Joypad.sample (now : Nat) (j : Joypad) : Joypad × Bool :=
  ({ j with prev := j.lines now }, j.prev &&& ~~~(j.lines now) != 0)

/-- Rule R403: an input line reads 0, which ends STOP. -/
def Joypad.wakes (now : Nat) (j : Joypad) : Bool := j.lines now != 0xF

end Sys2Proof.Machine
end

