-- ==== Sys2Proof/Machine/Ppu.lean ====
section
/-! DEFINITION. The PPU: scanline state machine, STAT line and layer mixer (64_ppu.md rules R530-R558). -/

namespace Sys2Proof.Machine

/-- Rule R57: the STAT encoding of a mode. -/
def PpuMode.code : PpuMode → BitVec 2
  | .hblank => 0
  | .vblank => 1
  | .oamScan => 2
  | .transfer => 3

/-- Rule R531: `mode_of`. -/
def modeOf (ly dot mode3Len : Nat) : PpuMode :=
  if 144 ≤ ly then .vblank
  else if dot < 80 then .oamScan
  else if dot < 80 + mode3Len then .transfer
  else .hblank

/-- Rule R532: what the penalty is looked up by. -/
def Ppu.penaltyKey (p : Ppu) (oam : Store) : PenaltyKey := ⟨p.ly, p.scx, p.wx, p.wy, p.lcdc, oam⟩

/-- Rule R532: `mode3_penalty`, 0 where the table has no entry, never above 203 (log 4). -/
def Ppu.penalty (p : Ppu) (oam : Store) : Nat :=
  match p.penalties.find? (fun entry => entry.1 == p.penaltyKey oam) with
  | some entry => min entry.2 Config.maxPenalty
  | none => 0

/-- Rule R539: `stat_cond`. -/
def Ppu.statCond (p : Ppu) : Bool :=
  (p.statSelect.getLsbD 3 && p.lycMatch) || (p.statSelect.getLsbD 2 && p.mode == .oamScan) ||
    (p.statSelect.getLsbD 1 && p.mode == .vblank) || (p.statSelect.getLsbD 0 && p.mode == .hblank)

/-- Rule R533: the dot and line counters, with the frame boundary. -/
def Ppu.advance (p : Ppu) : Ppu :=
  if p.dot + 1 = 456 then
    if p.ly + 1 = 154 then { p with dot := 0, ly := 0, windowLine := 0, windowYHit := false }
    else { p with dot := 0, ly := p.ly + 1 }
  else { p with dot := p.dot + 1 }

/-- Rules R532, R533: the latch of `mode3_len` at dot 80 of a visible line. -/
def Ppu.latchLength (oam : Store) (p : Ppu) : Ppu :=
  if p.ly < 144 ∧ p.dot = 80 then { p with mode3Len := 172 + p.penalty oam } else p

/-- A byte of VRAM at a CPU address (R547). -/
def vramAt (vram : Store) (addr : Nat) : Byte := Store.read vram (addr - 0x8000)

/-- Rule R547: the address of a background or window tile. -/
def Ppu.bgTileAddr (p : Ppu) (t : Byte) : Nat :=
  if p.lcdc.getLsbD 4 then 0x8000 + 16 * t.toNat else (0x9000 + 16 * t.toInt).toNat

/-- Rule R547: the address of a sprite tile. -/
def objTileAddr (t : Byte) : Nat := 0x8000 + 16 * t.toNat

/-- Rule R547: `tile_pixel`, a colour index. -/
def tilePixel (vram : Store) (a row col : Nat) : Nat :=
  2 * bitNat ((vramAt vram (a + 2 * row + 1)).getLsbD (7 - col)) +
    bitNat ((vramAt vram (a + 2 * row)).getLsbD (7 - col))

/-- Rules R61, R62: the shade a palette register gives a colour index. -/
def shadeOf (pal : Byte) (idx : Nat) : Nat := pal.toNat / 4 ^ idx % 4

/-- Rules R548, R553: the colour index of a pixel of a 32 x 32 tile map. -/
def Ppu.mapPixel (p : Ppu) (vram : Store) (high : Bool) (px py : Nat) : Nat :=
  let map := if high then 0x9C00 else 0x9800
  let t := vramAt vram (map + 32 * (py / 8) + px / 8)
  tilePixel vram (p.bgTileAddr t) (py % 8) (px % 8)

/-- Rule R553: the window covers column `x` of the line being composed. -/
def Ppu.windowCovers (p : Ppu) (x : Nat) : Bool :=
  p.lcdc.getLsbD 0 && p.lcdc.getLsbD 5 && p.windowYHit && decide (p.wx.toNat ≤ x + 7)

/-- Rules R548, R549, R553: the background or window colour index at (x, y). -/
def Ppu.bgIndex (p : Ppu) (vram : Store) (x y : Nat) : Nat :=
  if !p.lcdc.getLsbD 0 then 0
  else if p.windowCovers x then
    p.mapPixel vram (p.lcdc.getLsbD 6) (x + 7 - p.wx.toNat) p.windowLine.toNat
  else p.mapPixel vram (p.lcdc.getLsbD 3) ((x + p.scx.toNat) % 256) ((y + p.scy.toNat) % 256)

/-- Rules R548, R549: the shade of a background or window index. -/
def Ppu.bgShade (p : Ppu) (idx : Nat) : Nat := if p.lcdc.getLsbD 0 then shadeOf p.bgp idx else 0

/-- Rule R65: one OAM entry. -/
structure Sprite where
  index : Nat
  y : Nat
  x : Nat
  tile : Byte
  attr : Byte
  deriving DecidableEq, Repr

/-- Rule R65: OAM entry `k`. -/
def spriteAt (oam : Store) (k : Nat) : Sprite where
  index := k
  y := (Store.read oam (4 * k)).toNat
  x := (Store.read oam (4 * k + 1)).toNat
  tile := Store.read oam (4 * k + 2)
  attr := Store.read oam (4 * k + 3)

/-- Rules R56, R550: the sprite height. -/
def Ppu.spriteHeight (p : Ppu) : Nat := if p.lcdc.getLsbD 2 then 16 else 8

/-- Rule R550: the sprite is on line `y`. -/
def Ppu.onLine (p : Ppu) (y : Nat) (s : Sprite) : Bool :=
  decide (s.y ≤ y + 16) && decide (y + 16 < s.y + p.spriteHeight)

/-- Rules R545, R550: `select_sprites`, none when sprites are off. -/
def Ppu.selectSprites (p : Ppu) (oam : Store) (y : Nat) : List Sprite :=
  if p.lcdc.getLsbD 1 then (((List.range 40).map (spriteAt oam)).filter (p.onLine y)).take 10 else []

/-- Rule R551: the sprite covers column `x`. -/
def Sprite.covers (s : Sprite) (x : Nat) : Bool := decide (s.x ≤ x + 8) && decide (x < s.x)

/-- Rule R551: the colour index of a sprite at a point it covers. -/
def Ppu.spriteIndex (p : Ppu) (vram : Store) (s : Sprite) (x y : Nat) : Nat :=
  let r0 := y + 16 - s.y
  let r := if s.attr.getLsbD 6 then p.spriteHeight - 1 - r0 else r0
  let c0 := x + 8 - s.x
  let c := if s.attr.getLsbD 5 then 7 - c0 else c0
  let tile := if p.spriteHeight = 16 then (s.tile &&& 0xFE) + BitVec.ofNat 8 (r / 8) else s.tile
  tilePixel vram (objTileAddr tile) (r % 8) c

/-- Rule R552: of two sprites in OAM order, the one with priority. -/
def Sprite.first (best : Option Sprite) (s : Sprite) : Option Sprite :=
  match best with
  | none => some s
  | some b => if s.x < b.x then some s else some b

/-- Rule R552: `sprite_pixel`, the first opaque sprite by X and then by OAM index. -/
def Ppu.spritePixel (p : Ppu) (vram : Store) (objs : List Sprite) (x y : Nat) : Option Sprite :=
  (objs.filter (fun s => s.covers x && p.spriteIndex vram s x y != 0)).foldl Sprite.first none

/-- Rule R555: `mix`. -/
def Ppu.mix (p : Ppu) (vram : Store) (objs : List Sprite) (x y : Nat) : Nat :=
  let bi := p.bgIndex vram x y
  match p.spritePixel vram objs x y with
  | none => p.bgShade bi
  | some s =>
    if s.attr.getLsbD 7 && bi != 0 then p.bgShade bi
    else shadeOf (if s.attr.getLsbD 4 then p.obp1 else p.obp0) (p.spriteIndex vram s x y)

/-- Rule R556: the colour of a shade. -/
def Palette.color (pal : Palette) : Nat → Rgb
  | 0 => pal.c0
  | 1 => pal.c1
  | 2 => pal.c2
  | _ => pal.c3

/-- Rule R545: the colours of line `y`. -/
def Ppu.composeRow (p : Ppu) (vram oam : Store) (y : Nat) : List Rgb :=
  let objs := p.selectSprites oam y
  (List.range 160).map (fun x => p.palette.color (p.mix vram objs x y))

/-- Rule R557: the drawn colours of a line in CGB mode, three draws a pixel, left to right (log 19). -/
def drawnRow (draws : Nat) : List Rgb :=
  (List.range 160).map (fun x =>
    ⟨Config.freeByte (draws + 3 * x), Config.freeByte (draws + 3 * x + 1),
      Config.freeByte (draws + 3 * x + 2)⟩)

/-- Rules R545, R553: the window's line match, before the line is composed. -/
def Ppu.windowMatch (p : Ppu) : Ppu := if p.ly = p.wy.toNat then { p with windowYHit := true } else p

/-- Rule R554: the window line counter, after the line is composed. -/
def Ppu.windowCount (p : Ppu) : Ppu :=
  if (List.range 160).any p.windowCovers then { p with windowLine := p.windowLine + 1 } else p

/-- Rules R545, R557: `render_line` for the current line. -/
def Ppu.renderLine (model : ConsoleMode) (draws : Nat) (vram oam : Store) (p : Ppu) : Ppu :=
  let q := p.windowMatch
  let row := match model with
    | .cgb => drawnRow draws
    | .dmg | .sgb => q.composeRow vram oam q.ly
  Ppu.windowCount { q with framebuffer := q.framebuffer.set q.ly row }

/-- Rule R533: the tick that composes a line, the change from mode 3 to mode 0. -/
def Ppu.composes (p : Ppu) (next : PpuMode) : Bool := p.mode == .transfer && next == .hblank

/-- Rules R533, R536: the tick that enters VBlank. -/
def Ppu.entersVBlank (p : Ppu) (next : PpuMode) : Bool := next == .vblank && p.mode != .vblank

/-- Rules R533, R538, R539: the mode, coincidence and STAT line after a tick. -/
def Ppu.settle (next : PpuMode) (p : Ppu) : Ppu :=
  let q := { p with mode := next, lycMatch := p.ly == p.lyc.toNat }
  { q with statLine := q.statCond }

/-- What a PPU tick leaves: the PPU, whether it requests VBlank and STAT, and the draws it used. -/
structure PpuTick where
  ppu : Ppu
  vblank : Bool
  stat : Bool
  drawn : Nat
  deriving DecidableEq, Repr

/-- Rule R533: `ppu_tick` while the LCD is on. -/
def Ppu.run (model : ConsoleMode) (draws : Nat) (vram oam : Store) (p : Ppu) : PpuTick :=
  let p1 := p.advance.latchLength oam
  let next := modeOf p1.ly p1.dot p1.mode3Len
  let composed := p1.composes next
  let p2 := if composed then p1.renderLine model draws vram oam else p1
  let vblank := p2.entersVBlank next
  let p3 := if vblank then { p2 with frameComplete := true } else p2
  let p4 := p3.settle next
  { ppu := p4
    vblank := vblank
    stat := p4.statLine && !p3.statLine
    drawn := match model with
      | .cgb => if composed then 480 else 0
      | .dmg | .sgb => 0 }

/-- Rules R533, R541: `ppu_tick`; nothing happens while the LCD is off. -/
def Ppu.tick (model : ConsoleMode) (draws : Nat) (vram oam : Store) (p : Ppu) : PpuTick :=
  if p.lcdOn then p.run model draws vram oam
  else { ppu := p, vblank := false, stat := false, drawn := 0 }

/-- Rules R541, R542, R543: an LCDC write. Off and on again leaves `window_line` and `window_y_hit` as they
are: the two rules list what they set, and neither is among it (log 24). -/
def Ppu.writeLcdc (v : Byte) (p : Ppu) : Ppu :=
  if p.lcdOn && !v.getLsbD 7 then
    { p with
      lcdc := v, lcdOn := false, ly := 0, dot := 0, mode := .hblank, statLine := false }
  else if !p.lcdOn && v.getLsbD 7 then
    { p with lcdc := v, lcdOn := true, ly := 0, dot := 0, mode := .oamScan, mode3Len := 172 }
  else { p with lcdc := v }

/-- Rule R57: a STAT read. -/
def Ppu.readStat (p : Ppu) : Byte :=
  0b1#1 ++ p.statSelect ++ BitVec.ofBool p.lycMatch ++ p.mode.code

end Sys2Proof.Machine
end

