-- ==== Sys2Proof/Machine/Serial.lean ====
section
/-! DEFINITION. The serial shift-register unit (62_serial_joypad.md rules R490-R494). -/

namespace Sys2Proof.Machine

/-- Rule R492: the peer's answer to an outgoing bit, 1 with no peer (log 6). -/
def Serial.incoming (s : Serial) (out : Bool) : Bool :=
  match s.peerBits with
  | [] => true
  | p :: _ => if out then p.ifHigh else p.ifLow

/-- Rule R492: `shift_bit`, and whether it requests the Serial interrupt. -/
def Serial.shiftBit (s : Serial) : Serial × Bool :=
  let out := s.sb.getLsbD 7
  let sb := s.sb <<< 1 ||| bitAt (s.incoming out) 0
  let moved := { s with out := out, sb := sb, peerBits := s.peerBits.tail }
  if s.bits + 1 = 8 then ({ moved with bits := 0, active := false }, true)
  else ({ moved with bits := s.bits + 1 }, false)

/-- Rule R492: `serial_tick` at master cycle `now`. -/
def Serial.tick (now : Nat) (s : Serial) : Serial × Bool :=
  if !s.active then (s, false)
  else if s.internal then
    if s.clock + 1 = 512 then Serial.shiftBit { s with clock := 0 }
    else ({ s with clock := s.clock + 1 }, false)
  else if s.peerEdges.contains now then s.shiftBit
  else (s, false)

/-- Rule R491: an SB write. -/
def Serial.writeSb (v : Byte) (s : Serial) : Serial := { s with sb := v }

/-- Rule R491: an SC write. -/
def Serial.writeSc (v : Byte) (s : Serial) : Serial :=
  if v.getLsbD 7 then
    { s with internal := v.getLsbD 0, active := true, bits := 0, clock := 0 }
  else { s with internal := v.getLsbD 0, active := false }

/-- Rules R47, R493: an SC read; bit 1 reads as 1 in CGB mode too (log 7). -/
def Serial.readSc (s : Serial) : Byte := 0x7E ||| bitAt s.active 7 ||| bitAt s.internal 0

end Sys2Proof.Machine
end

