-- ==== Sys2Proof/Machine/Timer.lean ====
section
/-! DEFINITION. The DIV/TIMA timer (61_timer.md rules R460-R468). -/

namespace Sys2Proof.Machine

/-- Rules R52, R461: the divider bit that TAC[1:0] selects. -/
def timerSelect (tac : BitVec 3) : Nat :=
  match (tac.extractLsb' 0 2).toNat with
  | 0 => 9
  | 1 => 3
  | 2 => 5
  | _ => 7

/-- Rule R461: the edge detector's input. -/
def Timer.input (t : Timer) : Bool := t.tac.getLsbD 2 && t.sysclk.getLsbD (timerSelect t.tac)

/-- Rule R462: `tima_increment`. -/
def Timer.increment (t : Timer) : Timer :=
  if t.tima = 0xFF then { t with tima := 0x00, reload := 4 } else { t with tima := t.tima + 1 }

/-- Rule R461: `timer_edge`. -/
def Timer.edge (t : Timer) : Timer :=
  if t.inPrev && !t.input then { t.increment with inPrev := t.input }
  else { t with inPrev := t.input }

/-- Rule R460: the overflow window's count, and whether it ends in this master cycle. -/
def Timer.window (t : Timer) : Timer × Bool :=
  match t.reload with
  | 0 => (t, false)
  | 1 => ({ t with reload := 0, tima := t.tma }, true)
  | k + 2 => ({ t with reload := k + 1 }, false)

/-- Rule R460: `timer_tick`, and whether it requests the Timer interrupt. DIV counts on as R460 says from
the start value of D7, so 52 master cycles after reset by default, where R723 says 256 (log 21). -/
def Timer.tick (t : Timer) : Timer × Bool :=
  let w := t.window
  (Timer.edge { w.1 with sysclk := w.1.sysclk + 1 }, w.2)

/-- Rules R463, R466, R468: the edge check that follows a write; with the timer disabled it only
recomputes the previous input. -/
def Timer.settle (enabled : Bool) (t : Timer) : Timer :=
  if enabled then t.edge else { t with inPrev := t.input }

/-- Rule R463: `div_reset`. -/
def Timer.divReset (enabled : Bool) (t : Timer) : Timer := Timer.settle enabled { t with sysclk := 0 }

/-- Rule R464: a TIMA write, which cancels a pending reload (with the timer disabled too, log 9). -/
def Timer.writeTima (v : Byte) (t : Timer) : Timer := { t with tima := v, reload := 0 }

/-- Rule R465: a TMA write. -/
def Timer.writeTma (v : Byte) (t : Timer) : Timer := { t with tma := v }

/-- Rule R466: a TAC write. -/
def Timer.writeTac (enabled : Bool) (v : Byte) (t : Timer) : Timer :=
  Timer.settle enabled { t with tac := v.extractLsb' 0 3 }

end Sys2Proof.Machine
end

