-- ==== Sys2Proof/Machine/Ops.lean ====
section
/-! DEFINITION. The named operations over registers and memory: the MMU's read and write
(20_memory.md rules R143-R160), the stack, the instruction's own advance, taking an interrupt
(60_exceptions.md rule R425) and returning from one (45_control.md rule R394). -/

namespace Sys2Proof.Machine

/-- How an operation that hands on a value ends. -/
abbrev Answer (α : Type) := Host.Outcome α Fault Refusal

/-- How an instruction ends. -/
abbrev Result := Answer State

/-- One result after another; a fault or a refusal ends the instruction. -/
def chain {α : Type} (r : Result) (k : State → Answer α) : Answer α :=
  match r with
  | .next s => k s
  | .fault f => .fault f
  | .refused q => .refused q

/-! ## Registers -/

/-- Rule R224: the register codes. -/
def Cpu.reg8 (c : Cpu) : Reg8 → Byte
  | .b => c.b
  | .c => c.c
  | .d => c.d
  | .e => c.e
  | .h => c.h
  | .l => c.l
  | .a => c.a

/-- Rule R224: a write to a register code. -/
def Cpu.setReg8 (c : Cpu) (r : Reg8) (v : Byte) : Cpu :=
  match r with
  | .b => { c with b := v }
  | .c => { c with c := v }
  | .d => { c with d := v }
  | .e => { c with e := v }
  | .h => { c with h := v }
  | .l => { c with l := v }
  | .a => { c with a := v }

/-- Rules R30, R225: a pair is its two halves, the first-named one high. -/
def Cpu.reg16 (c : Cpu) : Reg16 → Word
  | .bc => wordOf c.b c.c
  | .de => wordOf c.d c.e
  | .hl => wordOf c.h c.l
  | .sp => c.sp

/-- Rules R30, R225: writing a pair writes both halves. -/
def Cpu.setReg16 (c : Cpu) (p : Reg16) (v : Word) : Cpu :=
  match p with
  | .bc => { c with b := hiByte v, c := loByte v }
  | .de => { c with d := hiByte v, e := loByte v }
  | .hl => { c with h := hiByte v, l := loByte v }
  | .sp => { c with sp := v }

/-- Rule R31: F as a byte; its low nibble is zero. -/
def Flags.toByte (f : Flags) : Byte := bitAt f.z 7 ||| bitAt f.n 6 ||| bitAt f.h 5 ||| bitAt f.c 4

/-- Rules R31, R296: F written as a byte; its low nibble is dropped. -/
def Flags.ofByte (v : Byte) : Flags := ⟨v.getLsbD 7, v.getLsbD 6, v.getLsbD 5, v.getLsbD 4⟩

/-- Rules R30, R226: the pairs of PUSH and POP. -/
def Cpu.stackPair (c : Cpu) : StackPair → Word
  | .bc => wordOf c.b c.c
  | .de => wordOf c.d c.e
  | .hl => wordOf c.h c.l
  | .af => wordOf c.a c.flags.toByte

/-- Rules R295, R296: a popped value. -/
def Cpu.setStackPair (c : Cpu) (p : StackPair) (v : Word) : Cpu :=
  match p with
  | .bc => { c with b := hiByte v, c := loByte v }
  | .de => { c with d := hiByte v, e := loByte v }
  | .hl => { c with h := hiByte v, l := loByte v }
  | .af => { c with a := hiByte v, flags := Flags.ofByte (loByte v) }

/-- A machine with another CPU register file. -/
def State.withCpu (s : State) (c : Cpu) : State := { s with cpu := c }

/-- Rule R224. -/
def State.reg8 (s : State) (r : Reg8) : Byte := s.cpu.reg8 r

/-- Rule R224. -/
def State.setReg8 (s : State) (r : Reg8) (v : Byte) : State := s.withCpu (s.cpu.setReg8 r v)

/-- Rule R225. -/
def State.reg16 (s : State) (p : Reg16) : Word := s.cpu.reg16 p

/-- Rule R225. -/
def State.setReg16 (s : State) (p : Reg16) (v : Word) : State := s.withCpu (s.cpu.setReg16 p v)

/-- Rule R226. -/
def State.stackPair (s : State) (p : StackPair) : Word := s.cpu.stackPair p

/-- Rule R226. -/
def State.setStackPair (s : State) (p : StackPair) (v : Word) : State :=
  s.withCpu (s.cpu.setStackPair p v)

/-- Rule R31. -/
def State.setFlags (s : State) (f : Flags) : State := s.withCpu { s.cpu with flags := f }

/-- Rule R32. -/
def State.setSp (s : State) (v : Word) : State := s.withCpu { s.cpu with sp := v }

/-- Rules R10, R33. -/
def State.setPc (s : State) (v : Word) : State := s.withCpu { s.cpu with pc := v }

/-- Rule R30: HL, the address of every `(HL)` operand (R224). -/
def State.hl (s : State) : Word := s.reg16 .hl

/-- Rule R690: cost added to the step in progress (log 10). -/
def State.addCost (s : State) (cost : Nat) : State := { s with stepCost := s.stepCost + cost }

/-! ## Interrupt requests -/

/-- Rule R421: `request_interrupt(i)` when `b`. -/
def Interrupts.requestIf (b : Bool) (i : Nat) (x : Interrupts) : Interrupts :=
  if b then { x with iflag := x.iflag ||| BitVec.ofNat 5 (2 ^ i) } else x

/-- Rule R13: the interrupts both enabled and requested, `IE & IF & 0x1F`. -/
def Interrupts.pending (x : Interrupts) : BitVec 5 := x.ie.extractLsb' 0 5 &&& x.iflag

/-- Rule R424: the lowest-numbered pending interrupt. -/
def firstPending (p : BitVec 5) : Nat :=
  if p.getLsbD 0 then 0
  else if p.getLsbD 1 then 1
  else if p.getLsbD 2 then 2
  else if p.getLsbD 3 then 3
  else 4

/-- Rule R43: an IF read. -/
def Interrupts.readIf (x : Interrupts) : Byte := 0b111#3 ++ x.iflag

/-! ## The MMU -/

/-- Rule R143: what an address reaches, echo RAM resolved (R153) and the WRAM bank applied (R152). -/
inductive Target where
  | rom (addr : Word)
  | vram (offset : Nat)
  | cartRam (addr : Word)
  | wram (offset : Nat)
  | oam (offset : Nat)
  | unusable
  | io (r : IoReg)
  | hram (offset : Nat)
  | ie
  deriving DecidableEq, Repr

/-- Rules R143, R153: the region of an address. -/
def State.target (s : State) (addr : Word) : Target :=
  let a := addr.toNat
  if a < 0x8000 then .rom addr
  else if a < 0xA000 then .vram (a - 0x8000)
  else if a < 0xC000 then .cartRam addr
  else if a < 0xE000 then .wram (wramOffset s.model s.svbk addr)
  else if a < 0xFE00 then .wram (wramOffset s.model s.svbk (addr - 0x2000))
  else if a < 0xFEA0 then .oam (a - 0xFE00)
  else if a < 0xFF00 then .unusable
  else if a < 0xFF80 then .io (ioReg s.model addr)
  else if a < 0xFFFF then .hram (a - 0xFF80)
  else .ie

/-- Rule R148. -/
def State.vramBlocked (s : State) : Bool := s.enable.ppu && s.ppu.lcdOn && s.ppu.mode == .transfer

/-- Rule R154. -/
def State.oamBlocked (s : State) : Bool :=
  s.enable.ppu && s.ppu.lcdOn && (s.ppu.mode == .oamScan || s.ppu.mode == .transfer)

/-- Rule R515: the OAM-DMA unit holds the bus for this address. -/
def State.busTaken (s : State) (addr : Word) : Bool := s.dma.active && decide (addr.toNat < 0xFF00)

/-- Rules R11, R145: what a CPU read gives: a value, a drawn value, or a refusal. -/
inductive ReadResult where
  | value (v : Byte)
  | drawn
  | refused (r : Refusal)
  deriving DecidableEq, Repr

/-- Rule R157: `io_read`. -/
def State.ioRead (s : State) (addr : Word) (r : IoReg) : ReadResult :=
  match r with
  | .p1 => .value (s.joypad.read s.cycles)
  | .sb => .value s.serial.sb
  | .sc => .value s.serial.readSc
  | .div => .value (hiByte s.timer.sysclk)
  | .tima => .value s.timer.tima
  | .tma => .value s.timer.tma
  | .tac => .value (0x1F#5 ++ s.timer.tac)
  | .iflag => .value s.ints.readIf
  | .wave k => if s.apu.ch3.on then .drawn else .value (Store.read s.mem.waveRam k)
  | .lcdc => .value s.ppu.lcdc
  | .stat => .value s.ppu.readStat
  | .scy => .value s.ppu.scy
  | .scx => .value s.ppu.scx
  | .ly => .value (BitVec.ofNat 8 s.ppu.ly)
  | .lyc => .value s.ppu.lyc
  | .dma => .value s.dma.reg
  | .bgp => .value s.ppu.bgp
  | .obp0 => .value s.ppu.obp0
  | .obp1 => .value s.ppu.obp1
  | .wy => .value s.ppu.wy
  | .wx => .value s.ppu.wx
  | .svbk => .value (0x1F#5 ++ s.svbk)
  | .cgbOnly => .refused (.cgbRegister addr)
  | .unmapped => .value 0xFF
  | .nr10 | .nr11 | .nr12 | .nr13 | .nr14 | .nr21 | .nr22 | .nr23 | .nr24 | .nr30 | .nr31 | .nr32
  | .nr33 | .nr34 | .nr41 | .nr42 | .nr43 | .nr44 | .nr50 | .nr51 | .nr52 => .value (s.apu.read r)

/-- Rule R145: the region dispatch of a CPU read, the OAM-DMA gate apart. -/
def State.regionRead (s : State) (addr : Word) : ReadResult :=
  match s.target addr with
  | .rom a => .value (romRead s.cart s.mem a)
  | .vram o => .value (if s.vramBlocked then 0xFF else Store.read s.mem.vram o)
  | .cartRam a => .value (cartRamRead s.cart s.mem a)
  | .wram o => .value (Store.read s.mem.wram o)
  | .oam o => .value (if s.oamBlocked then 0xFF else Store.read s.mem.oam o)
  | .unusable => .drawn
  | .io r => s.ioRead addr r
  | .hram o => .value (Store.read s.mem.hram o)
  | .ie => .value s.ints.ie

/-- Rules R145, R515: what a CPU read of an address gives. It changes nothing (R160). -/
def State.busRead (s : State) (addr : Word) : ReadResult :=
  if s.busTaken addr then .drawn else s.regionRead addr

/-- Rules R11, R145: `MemRead(addr, 1)`, the read value handed on; a drawn value is the free value
the counter names, and steps the counter (log 1). -/
def withRead {α : Type} (addr : Word) (s : State) (k : Byte → State → Answer α) : Answer α :=
  match s.busRead addr with
  | .value v => k v s
  | .drawn => k (Config.freeByte s.draws) { s with draws := s.draws + 1 }
  | .refused r => .refused r

/-- A machine with another OAM-DMA unit, timer, and so on; one name for each device's registers. -/
def State.withTimer (s : State) (t : Timer) : State := { s with timer := t }

/-- As `withTimer`, for the serial unit. -/
def State.withSerial (s : State) (x : Serial) : State := { s with serial := x }

/-- As `withTimer`, for the PPU. -/
def State.withPpu (s : State) (p : Ppu) : State := { s with ppu := p }

/-- As `withTimer`, for the APU. -/
def State.withApu (s : State) (a : Apu) : State := { s with apu := a }

/-- As `withTimer`, for the interrupt controller. -/
def State.withInts (s : State) (x : Interrupts) : State := { s with ints := x }

/-- As `withTimer`, for the memories. -/
def State.withMem (s : State) (m : Memory) : State := { s with mem := m }

/-- Rule R43: an IF write. -/
def Interrupts.writeIf (v : Byte) (x : Interrupts) : Interrupts := { x with iflag := v.extractLsb' 0 5 }

/-- Rules R3, R47: whether the machine is a CGB. -/
def State.isCgb (s : State) : Bool := s.model == .cgb

/-- Rules R157, R160: `io_write`. -/
def State.ioWrite (s : State) (r : IoReg) (v : Byte) : State :=
  match r with
  | .p1 => { s with joypad := s.joypad.write v }
  | .sb => s.withSerial (s.serial.writeSb v)
  | .sc => s.withSerial (s.serial.writeSc v)
  | .div => s.withTimer (s.timer.divReset s.enable.timer)
  | .tima => s.withTimer (s.timer.writeTima v)
  | .tma => s.withTimer (s.timer.writeTma v)
  | .tac => s.withTimer (s.timer.writeTac s.enable.timer v)
  | .iflag => s.withInts (s.ints.writeIf v)
  | .wave k => s.withMem { s.mem with waveRam := Store.write s.mem.waveRam k v }
  | .lcdc => s.withPpu (s.ppu.writeLcdc v)
  | .stat => s.withPpu { s.ppu with statSelect := v.extractLsb' 3 4 }
  | .scy => s.withPpu { s.ppu with scy := v }
  | .scx => s.withPpu { s.ppu with scx := v }
  | .ly => s
  | .lyc => s.withPpu { s.ppu with lyc := v }
  | .dma => { s with dma := s.dma.trigger s.enable.dma v }
  | .bgp => s.withPpu { s.ppu with bgp := v }
  | .obp0 => s.withPpu { s.ppu with obp0 := v }
  | .obp1 => s.withPpu { s.ppu with obp1 := v }
  | .wy => s.withPpu { s.ppu with wy := v }
  | .wx => s.withPpu { s.ppu with wx := v }
  | .svbk => { s with svbk := v.extractLsb' 0 3 }
  | .cgbOnly => s
  | .unmapped => s
  | .nr10 | .nr11 | .nr12 | .nr13 | .nr14 | .nr21 | .nr22 | .nr23 | .nr24 | .nr30 | .nr31 | .nr32
  | .nr33 | .nr34 | .nr41 | .nr42 | .nr43 | .nr44 | .nr50 | .nr51 | .nr52 =>
    s.withApu (s.apu.write s.isCgb r v)

/-- Rules R47, R93, R645: the I/O writes the spec refuses. -/
def State.ioRefusal (s : State) (addr : Word) (r : IoReg) (v : Byte) : Option Refusal :=
  match r with
  | .sc => if s.isCgb && v.getLsbD 1 then some (.cgbRegister addr) else none
  | .wave _ => if s.apu.ch3.on then some (.waveRamWhilePlaying addr) else none
  | .cgbOnly => some (.cgbRegister addr)
  | _ => none

/-- Rules R47, R93, R515, R645: why a CPU write is refused, if it is. -/
def State.writeRefusal (s : State) (addr : Word) (v : Byte) : Option Refusal :=
  if s.busTaken addr then some (.dmaBusConflict addr)
  else
    match s.target addr with
    | .io r => s.ioRefusal addr r v
    | _ => none

/-- Rule R146: the machine after a CPU write that is not refused. -/
def State.storeByte (s : State) (addr : Word) (v : Byte) : State :=
  match s.target addr with
  | .rom a => { s with cart := s.cart.control a v }
  | .vram o => if s.vramBlocked then s else s.withMem { s.mem with vram := Store.write s.mem.vram o v }
  | .cartRam a =>
    { s with
      cart := cartRamControl s.cart a v
      mem := { s.mem with cartRam := cartRamStore s.cart s.mem.cartRam a v } }
  | .wram o => s.withMem { s.mem with wram := Store.write s.mem.wram o v }
  | .oam o => if s.oamBlocked then s else s.withMem { s.mem with oam := Store.write s.mem.oam o v }
  | .unusable => s
  | .io r => s.ioWrite r v
  | .hram o => s.withMem { s.mem with hram := Store.write s.mem.hram o v }
  | .ie => s.withInts { s.ints with ie := v }

/-- Rules R11, R146: `MemWrite(addr, 1, v)`. -/
def writeByte (addr : Word) (v : Byte) (s : State) : Result :=
  match s.writeRefusal addr v with
  | some r => .refused r
  | none => .next (s.storeByte addr v)

/-! ## The stack -/

/-- Rule R11: `push16`, high byte first. -/
def pushWord (v : Word) (s : State) : Result :=
  chain (writeByte (s.cpu.sp - 1) (hiByte v) (s.setSp (s.cpu.sp - 1))) fun t =>
    writeByte (t.cpu.sp - 1) (loByte v) (t.setSp (t.cpu.sp - 1))

/-- Rule R11: `pop16`, low byte first, the popped value handed on. -/
def popWord (s : State) (k : Word → State → Result) : Result :=
  withRead s.cpu.sp s fun lo t =>
    withRead (t.cpu.sp + 1) (t.setSp (t.cpu.sp + 1)) fun hi u =>
      k (wordOf hi lo) (u.setSp (u.cpu.sp + 1))

/-! ## Starting an instruction -/

/-- Rules R33, R221, R402: how far the fetch of `len` bytes moves PC; one less under the HALT bug. -/
def fetchAdvance (haltBug : Bool) (len : Nat) : Nat := if haltBug then len - 1 else len

/-- Rules R33, R221, R740: what every instruction does first: PC passes its `len` bytes, the HALT bug
is used up, and its cost in master cycles is counted. -/
def State.startInstr (s : State) (len cost : Nat) : State :=
  (s.withCpu { s.cpu with
    pc := wordAdd s.cpu.pc (fetchAdvance s.cpu.haltBug len)
    haltBug := false }).addCost cost

/-! ## CPU control -/

/-- Rule R402: HALT: the CPU halts, or the HALT bug is armed when IME is clear and an interrupt is
already pending. -/
def State.enterHalt (s : State) : State :=
  if s.cpu.ime || s.ints.pending == 0 then s.withCpu { s.cpu with halted := true }
  else s.withCpu { s.cpu with haltBug := true }

/-- Rule R403: STOP: the divider reset of a DIV write, and the CPU stopped. -/
def State.enterStop (s : State) : State :=
  (s.withTimer (s.timer.divReset s.enable.timer)).withCpu { s.cpu with stopped := true }

/-- Rule R404: DI. -/
def State.disableInterrupts (s : State) : State :=
  s.withCpu { s.cpu with ime := false, imeDelay := false }

/-- Rule R405: EI; the step promotes the delay into IME after the next instruction. -/
def State.enableInterrupts (s : State) : State := s.withCpu { s.cpu with imeDelay := true }

/-! ## Taking an interrupt, and returning from one -/

/-- Rule R423: `vector(i)`. -/
def vector (i : Nat) : Word := BitVec.ofNat 16 (0x40 + 8 * i)

/-- Rules R402 (c), R425: the address a dispatch pushes. -/
def State.returnAddress (s : State) : Word := if s.cpu.haltBug then s.cpu.pc - 1 else s.cpu.pc

/-- Rule R425: IF bit `i` cleared. -/
def Interrupts.acknowledge (i : Nat) (x : Interrupts) : Interrupts :=
  { x with iflag := x.iflag &&& ~~~(BitVec.ofNat 5 (2 ^ i)) }

/-- Rule R425: the CPU flags a dispatch clears. -/
def State.enterDispatch (s : State) : State :=
  s.withCpu { s.cpu with ime := false, imeDelay := false, haltBug := false }

/-- Rules R425, R426: dispatch of interrupt `i`: the return address pushed, IME and the request
cleared, PC at the vector, 20 master cycles. -/
def takeInterrupt (i : Nat) (s : State) : Result :=
  chain (pushWord s.returnAddress s.enterDispatch) fun t =>
    .next (((t.withInts (t.ints.acknowledge i)).setPc (vector i)).addCost 20)

/-- Rule R394: the return from a handler: PC popped and IME set at once; `ime_delay` is untouched. -/
def returnFromInterrupt (s : State) : Result :=
  popWord s fun v t => .next (t.withCpu { t.cpu with pc := v, ime := true })

end Sys2Proof.Machine
end

