-- ==== Sys2Proof/Machine/Flags.lean ====
section
/-! DEFINITION. Every flag computation of the instruction set, with the result it belongs to
(42_alu8.md, 43_alu16.md, 44_rotate_shift_bit.md, 41_load16.md rule R293). -/

namespace Sys2Proof.Machine

/-- A result byte with the flags it leaves. -/
abbrev Flagged := Byte × Flags

/-- The low nibble as an integer (rule R9). -/
def lowNibble (v : Byte) : Nat := v.toNat % 16

/-- Rule R312: `A + v + c`; with `c = false` it is rule R311. -/
def addCarry (a v : Byte) (c : Bool) : Flagged :=
  let r := a + v + bitAt c 0
  (r, { z := r == 0
        n := false
        h := decide (lowNibble a + lowNibble v + bitNat c > 0xF)
        c := decide (a.toNat + v.toNat + bitNat c > 0xFF) })

/-- Rule R314: `A - v - c`; with `c = false` it is rule R313. -/
def subCarry (a v : Byte) (c : Bool) : Flagged :=
  let r := a - v - bitAt c 0
  (r, { z := r == 0
        n := true
        h := decide (lowNibble a < lowNibble v + bitNat c)
        c := decide (a.toNat < v.toNat + bitNat c) })

/-- Rules R315-R317: a bitwise result; only AND sets H. -/
def logicResult (r : Byte) (h : Bool) : Flagged := (r, ⟨r == 0, false, h, false⟩)

/-- Rules R311-R318: the accumulator and flags after an operation; CP writes no accumulator. -/
def aluResult (o : AluOp) (a v : Byte) (f : Flags) : Flagged :=
  match o with
  | .add => addCarry a v false
  | .adc => addCarry a v f.c
  | .sub => subCarry a v false
  | .sbc => subCarry a v f.c
  | .and => logicResult (a &&& v) true
  | .xor => logicResult (a ^^^ v) false
  | .or => logicResult (a ||| v) false
  | .cp => (a, (subCarry a v false).2)

/-- Rule R319: `o + 1`, C unchanged. -/
def incResult (o : Byte) (f : Flags) : Flagged :=
  (o + 1, { z := o + 1 == 0, n := false, h := decide (lowNibble o = 0xF), c := f.c })

/-- Rule R321: `o - 1`, C unchanged. -/
def decResult (o : Byte) (f : Flags) : Flagged :=
  (o - 1, { z := o - 1 == 0, n := true, h := decide (lowNibble o = 0x0), c := f.c })

/-- Rule R323: DAA's adjustment by 0x60. -/
def daaHigh (a : Byte) (f : Flags) : Bool := f.c || (!f.n && decide (0x99 < a.toNat))

/-- Rule R323: DAA's adjustment by 0x06. -/
def daaLow (a : Byte) (f : Flags) : Bool := f.h || (!f.n && decide (9 < lowNibble a))

/-- Rule R323: DAA. -/
def daaResult (a : Byte) (f : Flags) : Flagged :=
  let d := (if daaHigh a f then (0x60 : Byte) else 0) + (if daaLow a f then 0x06 else 0)
  let r := if f.n then a - d else a + d
  (r, { z := r == 0, n := f.n, h := false, c := daaHigh a f })

/-- Rule R324: CPL; Z and C unchanged. -/
def cplResult (a : Byte) (f : Flags) : Flagged := (~~~a, { f with n := true, h := true })

/-- Rule R325: SCF; Z unchanged. -/
def scfFlags (f : Flags) : Flags := { f with n := false, h := false, c := true }

/-- Rule R326: CCF; Z unchanged. -/
def ccfFlags (f : Flags) : Flags := { f with n := false, h := false, c := !f.c }

/-- Rule R340: the flags of a 16-bit addition; Z unchanged. -/
def addWordFlags (x v : Word) (f : Flags) : Flags :=
  { z := f.z
    n := false
    h := decide (x.toNat % 0x1000 + v.toNat % 0x1000 > 0xFFF)
    c := decide (x.toNat + v.toNat > 0xFFFF) }

/-- Rules R293, R343: the flags of `SP + e`, from the unsigned low-byte addition. -/
def spDispFlags (sp : Word) (e : Int) : Flags :=
  { z := false
    n := false
    h := decide (sp.toNat % 16 + lowNibble (dispByte e) > 0xF)
    c := decide (sp.toNat % 256 + (dispByte e).toNat > 0xFF) }

/-- Rules R355-R362: the value a rotate or shift gives. -/
def shiftValue (op : ShiftOp) (o : Byte) (cy : Bool) : Byte :=
  match op with
  | .rlc => o <<< 1 ||| bitAt (o.getLsbD 7) 0
  | .rrc => o >>> 1 ||| bitAt (o.getLsbD 0) 7
  | .rl => o <<< 1 ||| bitAt cy 0
  | .rr => o >>> 1 ||| bitAt cy 7
  | .sla => o <<< 1
  | .sra => o >>> 1 ||| (o &&& 0x80)
  | .swap => o <<< 4 ||| o >>> 4
  | .srl => o >>> 1

/-- Rules R355-R362: the carry a rotate or shift leaves. -/
def shiftCarry (op : ShiftOp) (o : Byte) : Bool :=
  match op with
  | .rlc | .rl | .sla => o.getLsbD 7
  | .rrc | .rr | .sra | .srl => o.getLsbD 0
  | .swap => false

/-- Rules R355-R362. -/
def shiftResult (op : ShiftOp) (o : Byte) (f : Flags) : Flagged :=
  let r := shiftValue op o f.c
  (r, ⟨r == 0, false, false, shiftCarry op o⟩)

/-- Rules R350-R353: the accumulator rotates, which clear Z. -/
def rotateAResult (op : ShiftOp) (a : Byte) (f : Flags) : Flagged :=
  (shiftValue op a f.c, ⟨false, false, false, shiftCarry op a⟩)

/-- Rule R363: the flags of BIT; C unchanged. -/
def bitFlags (b : Field3) (o : Byte) (f : Flags) : Flags := ⟨!o.getLsbD b.val, false, true, f.c⟩

/-- Rule R364: a bit reset. -/
def resValue (b : Field3) (o : Byte) : Byte := o &&& ~~~(BitVec.ofNat 8 (2 ^ b.val))

/-- Rule R365: a bit set. -/
def setValue (b : Field3) (o : Byte) : Byte := o ||| BitVec.ofNat 8 (2 ^ b.val)

/-- Rule R227: `cond(cc)`. -/
def Flags.holds (f : Flags) : Cond → Bool
  | .nz => !f.z
  | .z => f.z
  | .nc => !f.c
  | .c => f.c

end Sys2Proof.Machine
end

