-- ==== Sys2Proof/Machine/Operands.lean ====
section
/-! DEFINITION. The operand forms of the instruction set as shared operations: where an instruction
reads its operand and where it puts its result (30_encoding.md rules R223-R229, 42_alu8.md rule R310,
44_rotate_shift_bit.md rule R354). Each takes the state after `startInstr`. -/

namespace Sys2Proof.Machine

/-- The byte at `addr` handed to a register (R261, R265, R266, R269, R271, R273). -/
def loadReg (r : Reg8) (addr : Word) (s : State) : Result :=
  withRead addr s fun v t => .next (t.setReg8 r v)

/-- The byte at HL handed to A and HL moved on by `d` (R277, R278). -/
def loadAMove (d : Word) (s : State) : Result :=
  withRead s.hl s fun v t => .next ((t.setReg8 .a v).setReg16 .hl (t.hl + d))

/-- A stored at HL and HL moved on by `d` (R275, R276). -/
def storeAMove (d : Word) (s : State) : Result :=
  chain (writeByte s.hl (s.reg8 .a) s) fun t => .next (t.setReg16 .hl (t.hl + d))

/-- Rule R11 `Write16`: a word stored low byte first (R291). -/
def storeWord (addr v : Word) (s : State) : Result :=
  chain (writeByte addr (loByte v) s) fun t => writeByte (addr + 1) (hiByte v) t

/-- A flagged result put into A and F (R310). -/
def State.setAccumulator (s : State) (r : Flagged) : State := (s.setReg8 .a r.1).setFlags r.2

/-- Rules R310-R318: an operation on A and a value. -/
def aluWith (o : AluOp) (v : Byte) (s : State) : State :=
  s.setAccumulator (aluResult o (s.reg8 .a) v s.cpu.flags)

/-- Rule R310: the memory form. -/
def aluAtHl (o : AluOp) (s : State) : Result := withRead s.hl s fun v t => .next (aluWith o v t)

/-- An operation on a register with its flags (R319, R321, R354). -/
def updateReg (r : Reg8) (f : Byte → Flags → Flagged) (s : State) : State :=
  let x := f (s.reg8 r) s.cpu.flags
  (s.setReg8 r x.1).setFlags x.2

/-- An operation on the byte at HL with its flags (R320, R322, R354). -/
def updateAtHl (f : Byte → Flags → Flagged) (s : State) : Result :=
  withRead s.hl s fun o t =>
    let x := f o t.cpu.flags
    chain (writeByte t.hl x.1 t) fun u => .next (u.setFlags x.2)

/-- Rules R363, R354: BIT on the byte at HL. -/
def testBitAtHl (b : Field3) (s : State) : Result :=
  withRead s.hl s fun o t => .next (t.setFlags (bitFlags b o t.cpu.flags))

/-- Rules R354, R364, R365: a bit operation on the byte at HL, which writes back and no flag. -/
def modifyAtHl (f : Byte → Byte) (s : State) : Result :=
  withRead s.hl s fun o t => writeByte t.hl (f o) t

/-- Rule R383: PC moved by a displacement. -/
def State.jumpBy (s : State) (e : Int) : State := s.setPc (s.cpu.pc + dispWord e)

/-- Rules R385, R395: the return address pushed and PC at the target. -/
def callTo (target : Word) (s : State) : Result :=
  chain (pushWord s.cpu.pc s) fun t => .next (t.setPc target)

/-- Rule R387: PC popped. -/
def returnTo (s : State) : Result := popWord s fun v t => .next (t.setPc v)

end Sys2Proof.Machine
end

