-- ==== Sys2Proof/Machine/Alu16.lean ====
section
/-! DEFINITION. The 16-bit arithmetic instructions (43_alu16.md rules R340-R343).
Each meaning starts with `startInstr`, the bytes of the instruction and its cost (R740). -/

namespace Sys2Proof.Machine

/-- Rule R341, `INC BC`. -/
def execIncBc (s : State) : Result := .next ((s.startInstr 1 8).setReg16 .bc (s.reg16 .bc + 1))

/-- Rule R340, `ADD HL,BC`. -/
def execAddHlBc (s : State) : Result :=
  .next (((s.startInstr 1 8).setReg16 .hl (s.hl + s.reg16 .bc)).setFlags
     (addWordFlags s.hl (s.reg16 .bc) s.cpu.flags))

/-- Rule R342, `DEC BC`. -/
def execDecBc (s : State) : Result := .next ((s.startInstr 1 8).setReg16 .bc (s.reg16 .bc - 1))

/-- Rule R341, `INC DE`. -/
def execIncDe (s : State) : Result := .next ((s.startInstr 1 8).setReg16 .de (s.reg16 .de + 1))

/-- Rule R340, `ADD HL,DE`. -/
def execAddHlDe (s : State) : Result :=
  .next (((s.startInstr 1 8).setReg16 .hl (s.hl + s.reg16 .de)).setFlags
     (addWordFlags s.hl (s.reg16 .de) s.cpu.flags))

/-- Rule R342, `DEC DE`. -/
def execDecDe (s : State) : Result := .next ((s.startInstr 1 8).setReg16 .de (s.reg16 .de - 1))

/-- Rule R341, `INC HL`. -/
def execIncHl (s : State) : Result := .next ((s.startInstr 1 8).setReg16 .hl (s.reg16 .hl + 1))

/-- Rule R340, `ADD HL,HL`. -/
def execAddHlHl (s : State) : Result :=
  .next (((s.startInstr 1 8).setReg16 .hl (s.hl + s.reg16 .hl)).setFlags
     (addWordFlags s.hl (s.reg16 .hl) s.cpu.flags))

/-- Rule R342, `DEC HL`. -/
def execDecHl (s : State) : Result := .next ((s.startInstr 1 8).setReg16 .hl (s.reg16 .hl - 1))

/-- Rule R341, `INC SP`. -/
def execIncSp (s : State) : Result := .next ((s.startInstr 1 8).setReg16 .sp (s.reg16 .sp + 1))

/-- Rule R340, `ADD HL,SP`. -/
def execAddHlSp (s : State) : Result :=
  .next (((s.startInstr 1 8).setReg16 .hl (s.hl + s.reg16 .sp)).setFlags
     (addWordFlags s.hl (s.reg16 .sp) s.cpu.flags))

/-- Rule R342, `DEC SP`. -/
def execDecSp (s : State) : Result := .next ((s.startInstr 1 8).setReg16 .sp (s.reg16 .sp - 1))

/-- Rule R343, `ADD SP,e`. -/
def execAddSpE (e : Int) (s : State) : Result :=
  .next (((s.startInstr 2 16).setSp (s.cpu.sp + dispWord e)).setFlags (spDispFlags s.cpu.sp e))

end Sys2Proof.Machine
end

