-- ==== Sys2Proof/Machine/Alu8.lean ====
section
/-! DEFINITION. The 8-bit arithmetic and logic instructions (42_alu8.md rules R310-R326).
Each meaning starts with `startInstr`, the bytes of the instruction and its cost (R740). -/

namespace Sys2Proof.Machine

/-- Rule R319, `INC B`. -/
def execIncB (s : State) : Result := .next (updateReg .b incResult (s.startInstr 1 4))

/-- Rule R321, `DEC B`. -/
def execDecB (s : State) : Result := .next (updateReg .b decResult (s.startInstr 1 4))

/-- Rule R319, `INC C`. -/
def execIncC (s : State) : Result := .next (updateReg .c incResult (s.startInstr 1 4))

/-- Rule R321, `DEC C`. -/
def execDecC (s : State) : Result := .next (updateReg .c decResult (s.startInstr 1 4))

/-- Rule R319, `INC D`. -/
def execIncD (s : State) : Result := .next (updateReg .d incResult (s.startInstr 1 4))

/-- Rule R321, `DEC D`. -/
def execDecD (s : State) : Result := .next (updateReg .d decResult (s.startInstr 1 4))

/-- Rule R319, `INC E`. -/
def execIncE (s : State) : Result := .next (updateReg .e incResult (s.startInstr 1 4))

/-- Rule R321, `DEC E`. -/
def execDecE (s : State) : Result := .next (updateReg .e decResult (s.startInstr 1 4))

/-- Rule R319, `INC H`. -/
def execIncH (s : State) : Result := .next (updateReg .h incResult (s.startInstr 1 4))

/-- Rule R321, `DEC H`. -/
def execDecH (s : State) : Result := .next (updateReg .h decResult (s.startInstr 1 4))

/-- Rule R323, `DAA`. -/
def execDaa (s : State) : Result :=
  .next ((s.startInstr 1 4).setAccumulator (daaResult (s.reg8 .a) s.cpu.flags))

/-- Rule R319, `INC L`. -/
def execIncL (s : State) : Result := .next (updateReg .l incResult (s.startInstr 1 4))

/-- Rule R321, `DEC L`. -/
def execDecL (s : State) : Result := .next (updateReg .l decResult (s.startInstr 1 4))

/-- Rule R324, `CPL`. -/
def execCpl (s : State) : Result :=
  .next ((s.startInstr 1 4).setAccumulator (cplResult (s.reg8 .a) s.cpu.flags))

/-- Rule R320, `INC (HL)`. -/
def execIncMhl (s : State) : Result := updateAtHl incResult (s.startInstr 1 12)

/-- Rule R322, `DEC (HL)`. -/
def execDecMhl (s : State) : Result := updateAtHl decResult (s.startInstr 1 12)

/-- Rule R325, `SCF`. -/
def execScf (s : State) : Result := .next ((s.startInstr 1 4).setFlags (scfFlags s.cpu.flags))

/-- Rule R319, `INC A`. -/
def execIncA (s : State) : Result := .next (updateReg .a incResult (s.startInstr 1 4))

/-- Rule R321, `DEC A`. -/
def execDecA (s : State) : Result := .next (updateReg .a decResult (s.startInstr 1 4))

/-- Rule R326, `CCF`. -/
def execCcf (s : State) : Result := .next ((s.startInstr 1 4).setFlags (ccfFlags s.cpu.flags))

/-- Rule R311, `ADD A,B`. -/
def execAddAB (s : State) : Result := .next (aluWith .add (s.reg8 .b) (s.startInstr 1 4))

/-- Rule R311, `ADD A,C`. -/
def execAddAC (s : State) : Result := .next (aluWith .add (s.reg8 .c) (s.startInstr 1 4))

/-- Rule R311, `ADD A,D`. -/
def execAddAD (s : State) : Result := .next (aluWith .add (s.reg8 .d) (s.startInstr 1 4))

/-- Rule R311, `ADD A,E`. -/
def execAddAE (s : State) : Result := .next (aluWith .add (s.reg8 .e) (s.startInstr 1 4))

/-- Rule R311, `ADD A,H`. -/
def execAddAH (s : State) : Result := .next (aluWith .add (s.reg8 .h) (s.startInstr 1 4))

/-- Rule R311, `ADD A,L`. -/
def execAddAL (s : State) : Result := .next (aluWith .add (s.reg8 .l) (s.startInstr 1 4))

/-- Rule R311, `ADD A,(HL)`. -/
def execAddAMhl (s : State) : Result := aluAtHl .add (s.startInstr 1 8)

/-- Rule R311, `ADD A,A`. -/
def execAddAA (s : State) : Result := .next (aluWith .add (s.reg8 .a) (s.startInstr 1 4))

/-- Rule R312, `ADC A,B`. -/
def execAdcAB (s : State) : Result := .next (aluWith .adc (s.reg8 .b) (s.startInstr 1 4))

/-- Rule R312, `ADC A,C`. -/
def execAdcAC (s : State) : Result := .next (aluWith .adc (s.reg8 .c) (s.startInstr 1 4))

/-- Rule R312, `ADC A,D`. -/
def execAdcAD (s : State) : Result := .next (aluWith .adc (s.reg8 .d) (s.startInstr 1 4))

/-- Rule R312, `ADC A,E`. -/
def execAdcAE (s : State) : Result := .next (aluWith .adc (s.reg8 .e) (s.startInstr 1 4))

/-- Rule R312, `ADC A,H`. -/
def execAdcAH (s : State) : Result := .next (aluWith .adc (s.reg8 .h) (s.startInstr 1 4))

/-- Rule R312, `ADC A,L`. -/
def execAdcAL (s : State) : Result := .next (aluWith .adc (s.reg8 .l) (s.startInstr 1 4))

/-- Rule R312, `ADC A,(HL)`. -/
def execAdcAMhl (s : State) : Result := aluAtHl .adc (s.startInstr 1 8)

/-- Rule R312, `ADC A,A`. -/
def execAdcAA (s : State) : Result := .next (aluWith .adc (s.reg8 .a) (s.startInstr 1 4))

/-- Rule R313, `SUB B`. -/
def execSubB (s : State) : Result := .next (aluWith .sub (s.reg8 .b) (s.startInstr 1 4))

/-- Rule R313, `SUB C`. -/
def execSubC (s : State) : Result := .next (aluWith .sub (s.reg8 .c) (s.startInstr 1 4))

/-- Rule R313, `SUB D`. -/
def execSubD (s : State) : Result := .next (aluWith .sub (s.reg8 .d) (s.startInstr 1 4))

/-- Rule R313, `SUB E`. -/
def execSubE (s : State) : Result := .next (aluWith .sub (s.reg8 .e) (s.startInstr 1 4))

/-- Rule R313, `SUB H`. -/
def execSubH (s : State) : Result := .next (aluWith .sub (s.reg8 .h) (s.startInstr 1 4))

/-- Rule R313, `SUB L`. -/
def execSubL (s : State) : Result := .next (aluWith .sub (s.reg8 .l) (s.startInstr 1 4))

/-- Rule R313, `SUB (HL)`. -/
def execSubMhl (s : State) : Result := aluAtHl .sub (s.startInstr 1 8)

/-- Rule R313, `SUB A`. -/
def execSubA (s : State) : Result := .next (aluWith .sub (s.reg8 .a) (s.startInstr 1 4))

/-- Rule R314, `SBC A,B`. -/
def execSbcAB (s : State) : Result := .next (aluWith .sbc (s.reg8 .b) (s.startInstr 1 4))

/-- Rule R314, `SBC A,C`. -/
def execSbcAC (s : State) : Result := .next (aluWith .sbc (s.reg8 .c) (s.startInstr 1 4))

/-- Rule R314, `SBC A,D`. -/
def execSbcAD (s : State) : Result := .next (aluWith .sbc (s.reg8 .d) (s.startInstr 1 4))

/-- Rule R314, `SBC A,E`. -/
def execSbcAE (s : State) : Result := .next (aluWith .sbc (s.reg8 .e) (s.startInstr 1 4))

/-- Rule R314, `SBC A,H`. -/
def execSbcAH (s : State) : Result := .next (aluWith .sbc (s.reg8 .h) (s.startInstr 1 4))

/-- Rule R314, `SBC A,L`. -/
def execSbcAL (s : State) : Result := .next (aluWith .sbc (s.reg8 .l) (s.startInstr 1 4))

/-- Rule R314, `SBC A,(HL)`. -/
def execSbcAMhl (s : State) : Result := aluAtHl .sbc (s.startInstr 1 8)

/-- Rule R314, `SBC A,A`. -/
def execSbcAA (s : State) : Result := .next (aluWith .sbc (s.reg8 .a) (s.startInstr 1 4))

/-- Rule R315, `AND B`. -/
def execAndB (s : State) : Result := .next (aluWith .and (s.reg8 .b) (s.startInstr 1 4))

/-- Rule R315, `AND C`. -/
def execAndC (s : State) : Result := .next (aluWith .and (s.reg8 .c) (s.startInstr 1 4))

/-- Rule R315, `AND D`. -/
def execAndD (s : State) : Result := .next (aluWith .and (s.reg8 .d) (s.startInstr 1 4))

/-- Rule R315, `AND E`. -/
def execAndE (s : State) : Result := .next (aluWith .and (s.reg8 .e) (s.startInstr 1 4))

/-- Rule R315, `AND H`. -/
def execAndH (s : State) : Result := .next (aluWith .and (s.reg8 .h) (s.startInstr 1 4))

/-- Rule R315, `AND L`. -/
def execAndL (s : State) : Result := .next (aluWith .and (s.reg8 .l) (s.startInstr 1 4))

/-- Rule R315, `AND (HL)`. -/
def execAndMhl (s : State) : Result := aluAtHl .and (s.startInstr 1 8)

/-- Rule R315, `AND A`. -/
def execAndA (s : State) : Result := .next (aluWith .and (s.reg8 .a) (s.startInstr 1 4))

/-- Rule R316, `XOR B`. -/
def execXorB (s : State) : Result := .next (aluWith .xor (s.reg8 .b) (s.startInstr 1 4))

/-- Rule R316, `XOR C`. -/
def execXorC (s : State) : Result := .next (aluWith .xor (s.reg8 .c) (s.startInstr 1 4))

/-- Rule R316, `XOR D`. -/
def execXorD (s : State) : Result := .next (aluWith .xor (s.reg8 .d) (s.startInstr 1 4))

/-- Rule R316, `XOR E`. -/
def execXorE (s : State) : Result := .next (aluWith .xor (s.reg8 .e) (s.startInstr 1 4))

/-- Rule R316, `XOR H`. -/
def execXorH (s : State) : Result := .next (aluWith .xor (s.reg8 .h) (s.startInstr 1 4))

/-- Rule R316, `XOR L`. -/
def execXorL (s : State) : Result := .next (aluWith .xor (s.reg8 .l) (s.startInstr 1 4))

/-- Rule R316, `XOR (HL)`. -/
def execXorMhl (s : State) : Result := aluAtHl .xor (s.startInstr 1 8)

/-- Rule R316, `XOR A`. -/
def execXorA (s : State) : Result := .next (aluWith .xor (s.reg8 .a) (s.startInstr 1 4))

/-- Rule R317, `OR B`. -/
def execOrB (s : State) : Result := .next (aluWith .or (s.reg8 .b) (s.startInstr 1 4))

/-- Rule R317, `OR C`. -/
def execOrC (s : State) : Result := .next (aluWith .or (s.reg8 .c) (s.startInstr 1 4))

/-- Rule R317, `OR D`. -/
def execOrD (s : State) : Result := .next (aluWith .or (s.reg8 .d) (s.startInstr 1 4))

/-- Rule R317, `OR E`. -/
def execOrE (s : State) : Result := .next (aluWith .or (s.reg8 .e) (s.startInstr 1 4))

/-- Rule R317, `OR H`. -/
def execOrH (s : State) : Result := .next (aluWith .or (s.reg8 .h) (s.startInstr 1 4))

/-- Rule R317, `OR L`. -/
def execOrL (s : State) : Result := .next (aluWith .or (s.reg8 .l) (s.startInstr 1 4))

/-- Rule R317, `OR (HL)`. -/
def execOrMhl (s : State) : Result := aluAtHl .or (s.startInstr 1 8)

/-- Rule R317, `OR A`. -/
def execOrA (s : State) : Result := .next (aluWith .or (s.reg8 .a) (s.startInstr 1 4))

/-- Rule R318, `CP B`. -/
def execCpB (s : State) : Result := .next (aluWith .cp (s.reg8 .b) (s.startInstr 1 4))

/-- Rule R318, `CP C`. -/
def execCpC (s : State) : Result := .next (aluWith .cp (s.reg8 .c) (s.startInstr 1 4))

/-- Rule R318, `CP D`. -/
def execCpD (s : State) : Result := .next (aluWith .cp (s.reg8 .d) (s.startInstr 1 4))

/-- Rule R318, `CP E`. -/
def execCpE (s : State) : Result := .next (aluWith .cp (s.reg8 .e) (s.startInstr 1 4))

/-- Rule R318, `CP H`. -/
def execCpH (s : State) : Result := .next (aluWith .cp (s.reg8 .h) (s.startInstr 1 4))

/-- Rule R318, `CP L`. -/
def execCpL (s : State) : Result := .next (aluWith .cp (s.reg8 .l) (s.startInstr 1 4))

/-- Rule R318, `CP (HL)`. -/
def execCpMhl (s : State) : Result := aluAtHl .cp (s.startInstr 1 8)

/-- Rule R318, `CP A`. -/
def execCpA (s : State) : Result := .next (aluWith .cp (s.reg8 .a) (s.startInstr 1 4))

/-- Rule R311, `ADD A,n`. -/
def execAddAN (n : Byte) (s : State) : Result := .next (aluWith .add n (s.startInstr 2 8))

/-- Rule R312, `ADC A,n`. -/
def execAdcAN (n : Byte) (s : State) : Result := .next (aluWith .adc n (s.startInstr 2 8))

/-- Rule R313, `SUB n`. -/
def execSubN (n : Byte) (s : State) : Result := .next (aluWith .sub n (s.startInstr 2 8))

/-- Rule R314, `SBC A,n`. -/
def execSbcAN (n : Byte) (s : State) : Result := .next (aluWith .sbc n (s.startInstr 2 8))

/-- Rule R315, `AND n`. -/
def execAndN (n : Byte) (s : State) : Result := .next (aluWith .and n (s.startInstr 2 8))

/-- Rule R316, `XOR n`. -/
def execXorN (n : Byte) (s : State) : Result := .next (aluWith .xor n (s.startInstr 2 8))

/-- Rule R317, `OR n`. -/
def execOrN (n : Byte) (s : State) : Result := .next (aluWith .or n (s.startInstr 2 8))

/-- Rule R318, `CP n`. -/
def execCpN (n : Byte) (s : State) : Result := .next (aluWith .cp n (s.startInstr 2 8))

end Sys2Proof.Machine
end

