-- ==== Sys2Proof/Machine/Control.lean ====
section
/-! DEFINITION. The control-transfer instructions (45_control.md rules R380-R395).
Each meaning starts with `startInstr`, the bytes of the instruction and its cost (R740). -/

namespace Sys2Proof.Machine

/-- Rule R383, `JR e`. -/
def execJrE (e : Int) (s : State) : Result := .next ((s.startInstr 2 12).jumpBy e)

/-- Rule R384, `JR NZ,e`. -/
def execJrNzE (e : Int) (s : State) : Result :=
  if s.cpu.flags.holds .nz then .next ((s.startInstr 2 12).jumpBy e) else .next (s.startInstr 2 8)

/-- Rule R384, `JR Z,e`. -/
def execJrZE (e : Int) (s : State) : Result :=
  if s.cpu.flags.holds .z then .next ((s.startInstr 2 12).jumpBy e) else .next (s.startInstr 2 8)

/-- Rule R384, `JR NC,e`. -/
def execJrNcE (e : Int) (s : State) : Result :=
  if s.cpu.flags.holds .nc then .next ((s.startInstr 2 12).jumpBy e) else .next (s.startInstr 2 8)

/-- Rule R384, `JR C,e`. -/
def execJrCE (e : Int) (s : State) : Result :=
  if s.cpu.flags.holds .c then .next ((s.startInstr 2 12).jumpBy e) else .next (s.startInstr 2 8)

/-- Rule R388, `RET NZ`. -/
def execRetNz (s : State) : Result :=
  if s.cpu.flags.holds .nz then returnTo (s.startInstr 1 20) else .next (s.startInstr 1 8)

/-- Rule R381, `JP NZ,nn`. -/
def execJpNzNn (nn : Word) (s : State) : Result :=
  if s.cpu.flags.holds .nz then .next ((s.startInstr 3 16).setPc nn)
  else .next (s.startInstr 3 12)

/-- Rule R380, `JP nn`. -/
def execJpNn (nn : Word) (s : State) : Result := .next ((s.startInstr 3 16).setPc nn)

/-- Rule R386, `CALL NZ,nn`. -/
def execCallNzNn (nn : Word) (s : State) : Result :=
  if s.cpu.flags.holds .nz then callTo nn (s.startInstr 3 24) else .next (s.startInstr 3 12)

/-- Rule R395, `RST 0x00`. -/
def execRst00 (s : State) : Result := callTo 0x0000 (s.startInstr 1 16)

/-- Rule R388, `RET Z`. -/
def execRetZ (s : State) : Result :=
  if s.cpu.flags.holds .z then returnTo (s.startInstr 1 20) else .next (s.startInstr 1 8)

/-- Rule R387, `RET`. -/
def execRet (s : State) : Result := returnTo (s.startInstr 1 16)

/-- Rule R381, `JP Z,nn`. -/
def execJpZNn (nn : Word) (s : State) : Result :=
  if s.cpu.flags.holds .z then .next ((s.startInstr 3 16).setPc nn) else .next (s.startInstr 3 12)

/-- Rule R386, `CALL Z,nn`. -/
def execCallZNn (nn : Word) (s : State) : Result :=
  if s.cpu.flags.holds .z then callTo nn (s.startInstr 3 24) else .next (s.startInstr 3 12)

/-- Rule R385, `CALL nn`. -/
def execCallNn (nn : Word) (s : State) : Result := callTo nn (s.startInstr 3 24)

/-- Rule R395, `RST 0x08`. -/
def execRst08 (s : State) : Result := callTo 0x0008 (s.startInstr 1 16)

/-- Rule R388, `RET NC`. -/
def execRetNc (s : State) : Result :=
  if s.cpu.flags.holds .nc then returnTo (s.startInstr 1 20) else .next (s.startInstr 1 8)

/-- Rule R381, `JP NC,nn`. -/
def execJpNcNn (nn : Word) (s : State) : Result :=
  if s.cpu.flags.holds .nc then .next ((s.startInstr 3 16).setPc nn)
  else .next (s.startInstr 3 12)

/-- Rule R386, `CALL NC,nn`. -/
def execCallNcNn (nn : Word) (s : State) : Result :=
  if s.cpu.flags.holds .nc then callTo nn (s.startInstr 3 24) else .next (s.startInstr 3 12)

/-- Rule R395, `RST 0x10`. -/
def execRst10 (s : State) : Result := callTo 0x0010 (s.startInstr 1 16)

/-- Rule R388, `RET C`. -/
def execRetC (s : State) : Result :=
  if s.cpu.flags.holds .c then returnTo (s.startInstr 1 20) else .next (s.startInstr 1 8)

/-- Rule R394, `RETI`. -/
def execReti (s : State) : Result := returnFromInterrupt (s.startInstr 1 16)

/-- Rule R381, `JP C,nn`. -/
def execJpCNn (nn : Word) (s : State) : Result :=
  if s.cpu.flags.holds .c then .next ((s.startInstr 3 16).setPc nn) else .next (s.startInstr 3 12)

/-- Rule R386, `CALL C,nn`. -/
def execCallCNn (nn : Word) (s : State) : Result :=
  if s.cpu.flags.holds .c then callTo nn (s.startInstr 3 24) else .next (s.startInstr 3 12)

/-- Rule R395, `RST 0x18`. -/
def execRst18 (s : State) : Result := callTo 0x0018 (s.startInstr 1 16)

/-- Rule R395, `RST 0x20`. -/
def execRst20 (s : State) : Result := callTo 0x0020 (s.startInstr 1 16)

/-- Rule R382, `JP HL`. -/
def execJpHl (s : State) : Result := .next ((s.startInstr 1 4).setPc s.hl)

/-- Rule R395, `RST 0x28`. -/
def execRst28 (s : State) : Result := callTo 0x0028 (s.startInstr 1 16)

/-- Rule R395, `RST 0x30`. -/
def execRst30 (s : State) : Result := callTo 0x0030 (s.startInstr 1 16)

/-- Rule R395, `RST 0x38`. -/
def execRst38 (s : State) : Result := callTo 0x0038 (s.startInstr 1 16)

end Sys2Proof.Machine
end

