-- ==== Sys2Proof/Machine/Load16.lean ====
section
/-! DEFINITION. The 16-bit load and stack instructions (41_load16.md rules R290-R296).
Each meaning starts with `startInstr`, the bytes of the instruction and its cost (R740). -/

namespace Sys2Proof.Machine

/-- Rule R290, `LD BC,nn`. -/
def execLdBcNn (nn : Word) (s : State) : Result := .next ((s.startInstr 3 12).setReg16 .bc nn)

/-- Rule R291, `LD (nn),SP`. -/
def execLdMnnSp (nn : Word) (s : State) : Result := storeWord nn s.cpu.sp (s.startInstr 3 20)

/-- Rule R290, `LD DE,nn`. -/
def execLdDeNn (nn : Word) (s : State) : Result := .next ((s.startInstr 3 12).setReg16 .de nn)

/-- Rule R290, `LD HL,nn`. -/
def execLdHlNn (nn : Word) (s : State) : Result := .next ((s.startInstr 3 12).setReg16 .hl nn)

/-- Rule R290, `LD SP,nn`. -/
def execLdSpNn (nn : Word) (s : State) : Result := .next ((s.startInstr 3 12).setReg16 .sp nn)

/-- Rule R295, `POP BC`. -/
def execPopBc (s : State) : Result :=
  popWord (s.startInstr 1 12) fun v t => .next (t.setStackPair .bc v)

/-- Rule R294, `PUSH BC`. -/
def execPushBc (s : State) : Result := pushWord (s.stackPair .bc) (s.startInstr 1 16)

/-- Rule R295, `POP DE`. -/
def execPopDe (s : State) : Result :=
  popWord (s.startInstr 1 12) fun v t => .next (t.setStackPair .de v)

/-- Rule R294, `PUSH DE`. -/
def execPushDe (s : State) : Result := pushWord (s.stackPair .de) (s.startInstr 1 16)

/-- Rule R295, `POP HL`. -/
def execPopHl (s : State) : Result :=
  popWord (s.startInstr 1 12) fun v t => .next (t.setStackPair .hl v)

/-- Rule R294, `PUSH HL`. -/
def execPushHl (s : State) : Result := pushWord (s.stackPair .hl) (s.startInstr 1 16)

/-- Rule R296, `POP AF`. -/
def execPopAf (s : State) : Result :=
  popWord (s.startInstr 1 12) fun v t => .next (t.setStackPair .af v)

/-- Rule R294, `PUSH AF`. -/
def execPushAf (s : State) : Result := pushWord (s.stackPair .af) (s.startInstr 1 16)

/-- Rule R293, `LD HL,SP+e`. -/
def execLdHlSpE (e : Int) (s : State) : Result :=
  .next (((s.startInstr 2 12).setReg16 .hl (s.cpu.sp + dispWord e)).setFlags
     (spDispFlags s.cpu.sp e))

/-- Rule R292, `LD SP,HL`. -/
def execLdSpHl (s : State) : Result := .next ((s.startInstr 1 8).setSp s.hl)

end Sys2Proof.Machine
end

