-- ==== Sys2Proof/Machine/Load8.lean ====
section
/-! DEFINITION. The 8-bit load instructions (40_load8.md rules R260-R278).
Each meaning starts with `startInstr`, the bytes of the instruction and its cost (R740). -/

namespace Sys2Proof.Machine

/-- Rule R267, `LD (BC),A`. -/
def execLdMbcA (s : State) : Result := writeByte (s.reg16 .bc) (s.reg8 .a) (s.startInstr 1 8)

/-- Rule R263, `LD B,n`. -/
def execLdBN (n : Byte) (s : State) : Result := .next ((s.startInstr 2 8).setReg8 .b n)

/-- Rule R265, `LD A,(BC)`. -/
def execLdAMbc (s : State) : Result := loadReg .a (s.reg16 .bc) (s.startInstr 1 8)

/-- Rule R263, `LD C,n`. -/
def execLdCN (n : Byte) (s : State) : Result := .next ((s.startInstr 2 8).setReg8 .c n)

/-- Rule R268, `LD (DE),A`. -/
def execLdMdeA (s : State) : Result := writeByte (s.reg16 .de) (s.reg8 .a) (s.startInstr 1 8)

/-- Rule R263, `LD D,n`. -/
def execLdDN (n : Byte) (s : State) : Result := .next ((s.startInstr 2 8).setReg8 .d n)

/-- Rule R266, `LD A,(DE)`. -/
def execLdAMde (s : State) : Result := loadReg .a (s.reg16 .de) (s.startInstr 1 8)

/-- Rule R263, `LD E,n`. -/
def execLdEN (n : Byte) (s : State) : Result := .next ((s.startInstr 2 8).setReg8 .e n)

/-- Rule R275, `LD (HL+),A`. -/
def execLdMhliA (s : State) : Result := storeAMove 1 (s.startInstr 1 8)

/-- Rule R263, `LD H,n`. -/
def execLdHN (n : Byte) (s : State) : Result := .next ((s.startInstr 2 8).setReg8 .h n)

/-- Rule R277, `LD A,(HL+)`. -/
def execLdAMhli (s : State) : Result := loadAMove 1 (s.startInstr 1 8)

/-- Rule R263, `LD L,n`. -/
def execLdLN (n : Byte) (s : State) : Result := .next ((s.startInstr 2 8).setReg8 .l n)

/-- Rule R276, `LD (HL-),A`. -/
def execLdMhldA (s : State) : Result := storeAMove (-1) (s.startInstr 1 8)

/-- Rule R264, `LD (HL),n`. -/
def execLdMhlN (n : Byte) (s : State) : Result := writeByte s.hl n (s.startInstr 2 12)

/-- Rule R278, `LD A,(HL-)`. -/
def execLdAMhld (s : State) : Result := loadAMove (-1) (s.startInstr 1 8)

/-- Rule R263, `LD A,n`. -/
def execLdAN (n : Byte) (s : State) : Result := .next ((s.startInstr 2 8).setReg8 .a n)

/-- Rule R260, `LD B,B`. -/
def execLdBB (s : State) : Result := .next ((s.startInstr 1 4).setReg8 .b (s.reg8 .b))

/-- Rule R260, `LD B,C`. -/
def execLdBC (s : State) : Result := .next ((s.startInstr 1 4).setReg8 .b (s.reg8 .c))

/-- Rule R260, `LD B,D`. -/
def execLdBD (s : State) : Result := .next ((s.startInstr 1 4).setReg8 .b (s.reg8 .d))

/-- Rule R260, `LD B,E`. -/
def execLdBE (s : State) : Result := .next ((s.startInstr 1 4).setReg8 .b (s.reg8 .e))

/-- Rule R260, `LD B,H`. -/
def execLdBH (s : State) : Result := .next ((s.startInstr 1 4).setReg8 .b (s.reg8 .h))

/-- Rule R260, `LD B,L`. -/
def execLdBL (s : State) : Result := .next ((s.startInstr 1 4).setReg8 .b (s.reg8 .l))

/-- Rule R261, `LD B,(HL)`. -/
def execLdBMhl (s : State) : Result := loadReg .b s.hl (s.startInstr 1 8)

/-- Rule R260, `LD B,A`. -/
def execLdBA (s : State) : Result := .next ((s.startInstr 1 4).setReg8 .b (s.reg8 .a))

/-- Rule R260, `LD C,B`. -/
def execLdCB (s : State) : Result := .next ((s.startInstr 1 4).setReg8 .c (s.reg8 .b))

/-- Rule R260, `LD C,C`. -/
def execLdCC (s : State) : Result := .next ((s.startInstr 1 4).setReg8 .c (s.reg8 .c))

/-- Rule R260, `LD C,D`. -/
def execLdCD (s : State) : Result := .next ((s.startInstr 1 4).setReg8 .c (s.reg8 .d))

/-- Rule R260, `LD C,E`. -/
def execLdCE (s : State) : Result := .next ((s.startInstr 1 4).setReg8 .c (s.reg8 .e))

/-- Rule R260, `LD C,H`. -/
def execLdCH (s : State) : Result := .next ((s.startInstr 1 4).setReg8 .c (s.reg8 .h))

/-- Rule R260, `LD C,L`. -/
def execLdCL (s : State) : Result := .next ((s.startInstr 1 4).setReg8 .c (s.reg8 .l))

/-- Rule R261, `LD C,(HL)`. -/
def execLdCMhl (s : State) : Result := loadReg .c s.hl (s.startInstr 1 8)

/-- Rule R260, `LD C,A`. -/
def execLdCA (s : State) : Result := .next ((s.startInstr 1 4).setReg8 .c (s.reg8 .a))

/-- Rule R260, `LD D,B`. -/
def execLdDB (s : State) : Result := .next ((s.startInstr 1 4).setReg8 .d (s.reg8 .b))

/-- Rule R260, `LD D,C`. -/
def execLdDC (s : State) : Result := .next ((s.startInstr 1 4).setReg8 .d (s.reg8 .c))

/-- Rule R260, `LD D,D`. -/
def execLdDD (s : State) : Result := .next ((s.startInstr 1 4).setReg8 .d (s.reg8 .d))

/-- Rule R260, `LD D,E`. -/
def execLdDE (s : State) : Result := .next ((s.startInstr 1 4).setReg8 .d (s.reg8 .e))

/-- Rule R260, `LD D,H`. -/
def execLdDH (s : State) : Result := .next ((s.startInstr 1 4).setReg8 .d (s.reg8 .h))

/-- Rule R260, `LD D,L`. -/
def execLdDL (s : State) : Result := .next ((s.startInstr 1 4).setReg8 .d (s.reg8 .l))

/-- Rule R261, `LD D,(HL)`. -/
def execLdDMhl (s : State) : Result := loadReg .d s.hl (s.startInstr 1 8)

/-- Rule R260, `LD D,A`. -/
def execLdDA (s : State) : Result := .next ((s.startInstr 1 4).setReg8 .d (s.reg8 .a))

/-- Rule R260, `LD E,B`. -/
def execLdEB (s : State) : Result := .next ((s.startInstr 1 4).setReg8 .e (s.reg8 .b))

/-- Rule R260, `LD E,C`. -/
def execLdEC (s : State) : Result := .next ((s.startInstr 1 4).setReg8 .e (s.reg8 .c))

/-- Rule R260, `LD E,D`. -/
def execLdED (s : State) : Result := .next ((s.startInstr 1 4).setReg8 .e (s.reg8 .d))

/-- Rule R260, `LD E,E`. -/
def execLdEE (s : State) : Result := .next ((s.startInstr 1 4).setReg8 .e (s.reg8 .e))

/-- Rule R260, `LD E,H`. -/
def execLdEH (s : State) : Result := .next ((s.startInstr 1 4).setReg8 .e (s.reg8 .h))

/-- Rule R260, `LD E,L`. -/
def execLdEL (s : State) : Result := .next ((s.startInstr 1 4).setReg8 .e (s.reg8 .l))

/-- Rule R261, `LD E,(HL)`. -/
def execLdEMhl (s : State) : Result := loadReg .e s.hl (s.startInstr 1 8)

/-- Rule R260, `LD E,A`. -/
def execLdEA (s : State) : Result := .next ((s.startInstr 1 4).setReg8 .e (s.reg8 .a))

/-- Rule R260, `LD H,B`. -/
def execLdHB (s : State) : Result := .next ((s.startInstr 1 4).setReg8 .h (s.reg8 .b))

/-- Rule R260, `LD H,C`. -/
def execLdHC (s : State) : Result := .next ((s.startInstr 1 4).setReg8 .h (s.reg8 .c))

/-- Rule R260, `LD H,D`. -/
def execLdHD (s : State) : Result := .next ((s.startInstr 1 4).setReg8 .h (s.reg8 .d))

/-- Rule R260, `LD H,E`. -/
def execLdHE (s : State) : Result := .next ((s.startInstr 1 4).setReg8 .h (s.reg8 .e))

/-- Rule R260, `LD H,H`. -/
def execLdHH (s : State) : Result := .next ((s.startInstr 1 4).setReg8 .h (s.reg8 .h))

/-- Rule R260, `LD H,L`. -/
def execLdHL (s : State) : Result := .next ((s.startInstr 1 4).setReg8 .h (s.reg8 .l))

/-- Rule R261, `LD H,(HL)`. -/
def execLdHMhl (s : State) : Result := loadReg .h s.hl (s.startInstr 1 8)

/-- Rule R260, `LD H,A`. -/
def execLdHA (s : State) : Result := .next ((s.startInstr 1 4).setReg8 .h (s.reg8 .a))

/-- Rule R260, `LD L,B`. -/
def execLdLB (s : State) : Result := .next ((s.startInstr 1 4).setReg8 .l (s.reg8 .b))

/-- Rule R260, `LD L,C`. -/
def execLdLC (s : State) : Result := .next ((s.startInstr 1 4).setReg8 .l (s.reg8 .c))

/-- Rule R260, `LD L,D`. -/
def execLdLD (s : State) : Result := .next ((s.startInstr 1 4).setReg8 .l (s.reg8 .d))

/-- Rule R260, `LD L,E`. -/
def execLdLE (s : State) : Result := .next ((s.startInstr 1 4).setReg8 .l (s.reg8 .e))

/-- Rule R260, `LD L,H`. -/
def execLdLH (s : State) : Result := .next ((s.startInstr 1 4).setReg8 .l (s.reg8 .h))

/-- Rule R260, `LD L,L`. -/
def execLdLL (s : State) : Result := .next ((s.startInstr 1 4).setReg8 .l (s.reg8 .l))

/-- Rule R261, `LD L,(HL)`. -/
def execLdLMhl (s : State) : Result := loadReg .l s.hl (s.startInstr 1 8)

/-- Rule R260, `LD L,A`. -/
def execLdLA (s : State) : Result := .next ((s.startInstr 1 4).setReg8 .l (s.reg8 .a))

/-- Rule R262, `LD (HL),B`. -/
def execLdMhlB (s : State) : Result := writeByte s.hl (s.reg8 .b) (s.startInstr 1 8)

/-- Rule R262, `LD (HL),C`. -/
def execLdMhlC (s : State) : Result := writeByte s.hl (s.reg8 .c) (s.startInstr 1 8)

/-- Rule R262, `LD (HL),D`. -/
def execLdMhlD (s : State) : Result := writeByte s.hl (s.reg8 .d) (s.startInstr 1 8)

/-- Rule R262, `LD (HL),E`. -/
def execLdMhlE (s : State) : Result := writeByte s.hl (s.reg8 .e) (s.startInstr 1 8)

/-- Rule R262, `LD (HL),H`. -/
def execLdMhlH (s : State) : Result := writeByte s.hl (s.reg8 .h) (s.startInstr 1 8)

/-- Rule R262, `LD (HL),L`. -/
def execLdMhlL (s : State) : Result := writeByte s.hl (s.reg8 .l) (s.startInstr 1 8)

/-- Rule R262, `LD (HL),A`. -/
def execLdMhlA (s : State) : Result := writeByte s.hl (s.reg8 .a) (s.startInstr 1 8)

/-- Rule R260, `LD A,B`. -/
def execLdAB (s : State) : Result := .next ((s.startInstr 1 4).setReg8 .a (s.reg8 .b))

/-- Rule R260, `LD A,C`. -/
def execLdAC (s : State) : Result := .next ((s.startInstr 1 4).setReg8 .a (s.reg8 .c))

/-- Rule R260, `LD A,D`. -/
def execLdAD (s : State) : Result := .next ((s.startInstr 1 4).setReg8 .a (s.reg8 .d))

/-- Rule R260, `LD A,E`. -/
def execLdAE (s : State) : Result := .next ((s.startInstr 1 4).setReg8 .a (s.reg8 .e))

/-- Rule R260, `LD A,H`. -/
def execLdAH (s : State) : Result := .next ((s.startInstr 1 4).setReg8 .a (s.reg8 .h))

/-- Rule R260, `LD A,L`. -/
def execLdAL (s : State) : Result := .next ((s.startInstr 1 4).setReg8 .a (s.reg8 .l))

/-- Rule R261, `LD A,(HL)`. -/
def execLdAMhl (s : State) : Result := loadReg .a s.hl (s.startInstr 1 8)

/-- Rule R260, `LD A,A`. -/
def execLdAA (s : State) : Result := .next ((s.startInstr 1 4).setReg8 .a (s.reg8 .a))

/-- Rule R272, `LDH (n),A`. -/
def execLdhMnA (n : Byte) (s : State) : Result :=
  writeByte (highPage n) (s.reg8 .a) (s.startInstr 2 12)

/-- Rule R274, `LDH (C),A`. -/
def execLdhMcA (s : State) : Result :=
  writeByte (highPage (s.reg8 .c)) (s.reg8 .a) (s.startInstr 1 8)

/-- Rule R270, `LD (nn),A`. -/
def execLdMnnA (nn : Word) (s : State) : Result := writeByte nn (s.reg8 .a) (s.startInstr 3 16)

/-- Rule R271, `LDH A,(n)`. -/
def execLdhAMn (n : Byte) (s : State) : Result := loadReg .a (highPage n) (s.startInstr 2 12)

/-- Rule R273, `LDH A,(C)`. -/
def execLdhAMc (s : State) : Result := loadReg .a (highPage (s.reg8 .c)) (s.startInstr 1 8)

/-- Rule R269, `LD A,(nn)`. -/
def execLdAMnn (nn : Word) (s : State) : Result := loadReg .a nn (s.startInstr 3 16)

end Sys2Proof.Machine
end

