-- ==== Sys2Proof/Machine/RotateShiftBit.lean ====
section
/-! DEFINITION. The rotate, shift and bit instructions (44_rotate_shift_bit.md rules R350-R365).
Each meaning starts with `startInstr`, the bytes of the instruction and its cost (R740). -/

namespace Sys2Proof.Machine

/-- Rule R350, `RLCA`. -/
def execRlca (s : State) : Result :=
  .next ((s.startInstr 1 4).setAccumulator (rotateAResult .rlc (s.reg8 .a) s.cpu.flags))

/-- Rule R351, `RRCA`. -/
def execRrca (s : State) : Result :=
  .next ((s.startInstr 1 4).setAccumulator (rotateAResult .rrc (s.reg8 .a) s.cpu.flags))

/-- Rule R352, `RLA`. -/
def execRla (s : State) : Result :=
  .next ((s.startInstr 1 4).setAccumulator (rotateAResult .rl (s.reg8 .a) s.cpu.flags))

/-- Rule R353, `RRA`. -/
def execRra (s : State) : Result :=
  .next ((s.startInstr 1 4).setAccumulator (rotateAResult .rr (s.reg8 .a) s.cpu.flags))

/-- Rule R355, `RLC B`. -/
def execRlcB (s : State) : Result := .next (updateReg .b (shiftResult .rlc) (s.startInstr 2 8))

/-- Rule R355, `RLC C`. -/
def execRlcC (s : State) : Result := .next (updateReg .c (shiftResult .rlc) (s.startInstr 2 8))

/-- Rule R355, `RLC D`. -/
def execRlcD (s : State) : Result := .next (updateReg .d (shiftResult .rlc) (s.startInstr 2 8))

/-- Rule R355, `RLC E`. -/
def execRlcE (s : State) : Result := .next (updateReg .e (shiftResult .rlc) (s.startInstr 2 8))

/-- Rule R355, `RLC H`. -/
def execRlcH (s : State) : Result := .next (updateReg .h (shiftResult .rlc) (s.startInstr 2 8))

/-- Rule R355, `RLC L`. -/
def execRlcL (s : State) : Result := .next (updateReg .l (shiftResult .rlc) (s.startInstr 2 8))

/-- Rule R355, `RLC (HL)`. -/
def execRlcMhl (s : State) : Result := updateAtHl (shiftResult .rlc) (s.startInstr 2 16)

/-- Rule R355, `RLC A`. -/
def execRlcA (s : State) : Result := .next (updateReg .a (shiftResult .rlc) (s.startInstr 2 8))

/-- Rule R356, `RRC B`. -/
def execRrcB (s : State) : Result := .next (updateReg .b (shiftResult .rrc) (s.startInstr 2 8))

/-- Rule R356, `RRC C`. -/
def execRrcC (s : State) : Result := .next (updateReg .c (shiftResult .rrc) (s.startInstr 2 8))

/-- Rule R356, `RRC D`. -/
def execRrcD (s : State) : Result := .next (updateReg .d (shiftResult .rrc) (s.startInstr 2 8))

/-- Rule R356, `RRC E`. -/
def execRrcE (s : State) : Result := .next (updateReg .e (shiftResult .rrc) (s.startInstr 2 8))

/-- Rule R356, `RRC H`. -/
def execRrcH (s : State) : Result := .next (updateReg .h (shiftResult .rrc) (s.startInstr 2 8))

/-- Rule R356, `RRC L`. -/
def execRrcL (s : State) : Result := .next (updateReg .l (shiftResult .rrc) (s.startInstr 2 8))

/-- Rule R356, `RRC (HL)`. -/
def execRrcMhl (s : State) : Result := updateAtHl (shiftResult .rrc) (s.startInstr 2 16)

/-- Rule R356, `RRC A`. -/
def execRrcA (s : State) : Result := .next (updateReg .a (shiftResult .rrc) (s.startInstr 2 8))

/-- Rule R357, `RL B`. -/
def execRlB (s : State) : Result := .next (updateReg .b (shiftResult .rl) (s.startInstr 2 8))

/-- Rule R357, `RL C`. -/
def execRlC (s : State) : Result := .next (updateReg .c (shiftResult .rl) (s.startInstr 2 8))

/-- Rule R357, `RL D`. -/
def execRlD (s : State) : Result := .next (updateReg .d (shiftResult .rl) (s.startInstr 2 8))

/-- Rule R357, `RL E`. -/
def execRlE (s : State) : Result := .next (updateReg .e (shiftResult .rl) (s.startInstr 2 8))

/-- Rule R357, `RL H`. -/
def execRlH (s : State) : Result := .next (updateReg .h (shiftResult .rl) (s.startInstr 2 8))

/-- Rule R357, `RL L`. -/
def execRlL (s : State) : Result := .next (updateReg .l (shiftResult .rl) (s.startInstr 2 8))

/-- Rule R357, `RL (HL)`. -/
def execRlMhl (s : State) : Result := updateAtHl (shiftResult .rl) (s.startInstr 2 16)

/-- Rule R357, `RL A`. -/
def execRlA (s : State) : Result := .next (updateReg .a (shiftResult .rl) (s.startInstr 2 8))

/-- Rule R358, `RR B`. -/
def execRrB (s : State) : Result := .next (updateReg .b (shiftResult .rr) (s.startInstr 2 8))

/-- Rule R358, `RR C`. -/
def execRrC (s : State) : Result := .next (updateReg .c (shiftResult .rr) (s.startInstr 2 8))

/-- Rule R358, `RR D`. -/
def execRrD (s : State) : Result := .next (updateReg .d (shiftResult .rr) (s.startInstr 2 8))

/-- Rule R358, `RR E`. -/
def execRrE (s : State) : Result := .next (updateReg .e (shiftResult .rr) (s.startInstr 2 8))

/-- Rule R358, `RR H`. -/
def execRrH (s : State) : Result := .next (updateReg .h (shiftResult .rr) (s.startInstr 2 8))

/-- Rule R358, `RR L`. -/
def execRrL (s : State) : Result := .next (updateReg .l (shiftResult .rr) (s.startInstr 2 8))

/-- Rule R358, `RR (HL)`. -/
def execRrMhl (s : State) : Result := updateAtHl (shiftResult .rr) (s.startInstr 2 16)

/-- Rule R358, `RR A`. -/
def execRrA (s : State) : Result := .next (updateReg .a (shiftResult .rr) (s.startInstr 2 8))

/-- Rule R359, `SLA B`. -/
def execSlaB (s : State) : Result := .next (updateReg .b (shiftResult .sla) (s.startInstr 2 8))

/-- Rule R359, `SLA C`. -/
def execSlaC (s : State) : Result := .next (updateReg .c (shiftResult .sla) (s.startInstr 2 8))

/-- Rule R359, `SLA D`. -/
def execSlaD (s : State) : Result := .next (updateReg .d (shiftResult .sla) (s.startInstr 2 8))

/-- Rule R359, `SLA E`. -/
def execSlaE (s : State) : Result := .next (updateReg .e (shiftResult .sla) (s.startInstr 2 8))

/-- Rule R359, `SLA H`. -/
def execSlaH (s : State) : Result := .next (updateReg .h (shiftResult .sla) (s.startInstr 2 8))

/-- Rule R359, `SLA L`. -/
def execSlaL (s : State) : Result := .next (updateReg .l (shiftResult .sla) (s.startInstr 2 8))

/-- Rule R359, `SLA (HL)`. -/
def execSlaMhl (s : State) : Result := updateAtHl (shiftResult .sla) (s.startInstr 2 16)

/-- Rule R359, `SLA A`. -/
def execSlaA (s : State) : Result := .next (updateReg .a (shiftResult .sla) (s.startInstr 2 8))

/-- Rule R360, `SRA B`. -/
def execSraB (s : State) : Result := .next (updateReg .b (shiftResult .sra) (s.startInstr 2 8))

/-- Rule R360, `SRA C`. -/
def execSraC (s : State) : Result := .next (updateReg .c (shiftResult .sra) (s.startInstr 2 8))

/-- Rule R360, `SRA D`. -/
def execSraD (s : State) : Result := .next (updateReg .d (shiftResult .sra) (s.startInstr 2 8))

/-- Rule R360, `SRA E`. -/
def execSraE (s : State) : Result := .next (updateReg .e (shiftResult .sra) (s.startInstr 2 8))

/-- Rule R360, `SRA H`. -/
def execSraH (s : State) : Result := .next (updateReg .h (shiftResult .sra) (s.startInstr 2 8))

/-- Rule R360, `SRA L`. -/
def execSraL (s : State) : Result := .next (updateReg .l (shiftResult .sra) (s.startInstr 2 8))

/-- Rule R360, `SRA (HL)`. -/
def execSraMhl (s : State) : Result := updateAtHl (shiftResult .sra) (s.startInstr 2 16)

/-- Rule R360, `SRA A`. -/
def execSraA (s : State) : Result := .next (updateReg .a (shiftResult .sra) (s.startInstr 2 8))

/-- Rule R361, `SWAP B`. -/
def execSwapB (s : State) : Result := .next (updateReg .b (shiftResult .swap) (s.startInstr 2 8))

/-- Rule R361, `SWAP C`. -/
def execSwapC (s : State) : Result := .next (updateReg .c (shiftResult .swap) (s.startInstr 2 8))

/-- Rule R361, `SWAP D`. -/
def execSwapD (s : State) : Result := .next (updateReg .d (shiftResult .swap) (s.startInstr 2 8))

/-- Rule R361, `SWAP E`. -/
def execSwapE (s : State) : Result := .next (updateReg .e (shiftResult .swap) (s.startInstr 2 8))

/-- Rule R361, `SWAP H`. -/
def execSwapH (s : State) : Result := .next (updateReg .h (shiftResult .swap) (s.startInstr 2 8))

/-- Rule R361, `SWAP L`. -/
def execSwapL (s : State) : Result := .next (updateReg .l (shiftResult .swap) (s.startInstr 2 8))

/-- Rule R361, `SWAP (HL)`. -/
def execSwapMhl (s : State) : Result := updateAtHl (shiftResult .swap) (s.startInstr 2 16)

/-- Rule R361, `SWAP A`. -/
def execSwapA (s : State) : Result := .next (updateReg .a (shiftResult .swap) (s.startInstr 2 8))

/-- Rule R362, `SRL B`. -/
def execSrlB (s : State) : Result := .next (updateReg .b (shiftResult .srl) (s.startInstr 2 8))

/-- Rule R362, `SRL C`. -/
def execSrlC (s : State) : Result := .next (updateReg .c (shiftResult .srl) (s.startInstr 2 8))

/-- Rule R362, `SRL D`. -/
def execSrlD (s : State) : Result := .next (updateReg .d (shiftResult .srl) (s.startInstr 2 8))

/-- Rule R362, `SRL E`. -/
def execSrlE (s : State) : Result := .next (updateReg .e (shiftResult .srl) (s.startInstr 2 8))

/-- Rule R362, `SRL H`. -/
def execSrlH (s : State) : Result := .next (updateReg .h (shiftResult .srl) (s.startInstr 2 8))

/-- Rule R362, `SRL L`. -/
def execSrlL (s : State) : Result := .next (updateReg .l (shiftResult .srl) (s.startInstr 2 8))

/-- Rule R362, `SRL (HL)`. -/
def execSrlMhl (s : State) : Result := updateAtHl (shiftResult .srl) (s.startInstr 2 16)

/-- Rule R362, `SRL A`. -/
def execSrlA (s : State) : Result := .next (updateReg .a (shiftResult .srl) (s.startInstr 2 8))

/-- Rule R363, `BIT 0,B`. -/
def execBit0B (s : State) : Result :=
  .next ((s.startInstr 2 8).setFlags (bitFlags .f0 (s.reg8 .b) s.cpu.flags))

/-- Rule R363, `BIT 0,C`. -/
def execBit0C (s : State) : Result :=
  .next ((s.startInstr 2 8).setFlags (bitFlags .f0 (s.reg8 .c) s.cpu.flags))

/-- Rule R363, `BIT 0,D`. -/
def execBit0D (s : State) : Result :=
  .next ((s.startInstr 2 8).setFlags (bitFlags .f0 (s.reg8 .d) s.cpu.flags))

/-- Rule R363, `BIT 0,E`. -/
def execBit0E (s : State) : Result :=
  .next ((s.startInstr 2 8).setFlags (bitFlags .f0 (s.reg8 .e) s.cpu.flags))

/-- Rule R363, `BIT 0,H`. -/
def execBit0H (s : State) : Result :=
  .next ((s.startInstr 2 8).setFlags (bitFlags .f0 (s.reg8 .h) s.cpu.flags))

/-- Rule R363, `BIT 0,L`. -/
def execBit0L (s : State) : Result :=
  .next ((s.startInstr 2 8).setFlags (bitFlags .f0 (s.reg8 .l) s.cpu.flags))

/-- Rule R363, `BIT 0,(HL)`. -/
def execBit0Mhl (s : State) : Result := testBitAtHl .f0 (s.startInstr 2 12)

/-- Rule R363, `BIT 0,A`. -/
def execBit0A (s : State) : Result :=
  .next ((s.startInstr 2 8).setFlags (bitFlags .f0 (s.reg8 .a) s.cpu.flags))

/-- Rule R363, `BIT 1,B`. -/
def execBit1B (s : State) : Result :=
  .next ((s.startInstr 2 8).setFlags (bitFlags .f1 (s.reg8 .b) s.cpu.flags))

/-- Rule R363, `BIT 1,C`. -/
def execBit1C (s : State) : Result :=
  .next ((s.startInstr 2 8).setFlags (bitFlags .f1 (s.reg8 .c) s.cpu.flags))

/-- Rule R363, `BIT 1,D`. -/
def execBit1D (s : State) : Result :=
  .next ((s.startInstr 2 8).setFlags (bitFlags .f1 (s.reg8 .d) s.cpu.flags))

/-- Rule R363, `BIT 1,E`. -/
def execBit1E (s : State) : Result :=
  .next ((s.startInstr 2 8).setFlags (bitFlags .f1 (s.reg8 .e) s.cpu.flags))

/-- Rule R363, `BIT 1,H`. -/
def execBit1H (s : State) : Result :=
  .next ((s.startInstr 2 8).setFlags (bitFlags .f1 (s.reg8 .h) s.cpu.flags))

/-- Rule R363, `BIT 1,L`. -/
def execBit1L (s : State) : Result :=
  .next ((s.startInstr 2 8).setFlags (bitFlags .f1 (s.reg8 .l) s.cpu.flags))

/-- Rule R363, `BIT 1,(HL)`. -/
def execBit1Mhl (s : State) : Result := testBitAtHl .f1 (s.startInstr 2 12)

/-- Rule R363, `BIT 1,A`. -/
def execBit1A (s : State) : Result :=
  .next ((s.startInstr 2 8).setFlags (bitFlags .f1 (s.reg8 .a) s.cpu.flags))

/-- Rule R363, `BIT 2,B`. -/
def execBit2B (s : State) : Result :=
  .next ((s.startInstr 2 8).setFlags (bitFlags .f2 (s.reg8 .b) s.cpu.flags))

/-- Rule R363, `BIT 2,C`. -/
def execBit2C (s : State) : Result :=
  .next ((s.startInstr 2 8).setFlags (bitFlags .f2 (s.reg8 .c) s.cpu.flags))

/-- Rule R363, `BIT 2,D`. -/
def execBit2D (s : State) : Result :=
  .next ((s.startInstr 2 8).setFlags (bitFlags .f2 (s.reg8 .d) s.cpu.flags))

/-- Rule R363, `BIT 2,E`. -/
def execBit2E (s : State) : Result :=
  .next ((s.startInstr 2 8).setFlags (bitFlags .f2 (s.reg8 .e) s.cpu.flags))

/-- Rule R363, `BIT 2,H`. -/
def execBit2H (s : State) : Result :=
  .next ((s.startInstr 2 8).setFlags (bitFlags .f2 (s.reg8 .h) s.cpu.flags))

/-- Rule R363, `BIT 2,L`. -/
def execBit2L (s : State) : Result :=
  .next ((s.startInstr 2 8).setFlags (bitFlags .f2 (s.reg8 .l) s.cpu.flags))

/-- Rule R363, `BIT 2,(HL)`. -/
def execBit2Mhl (s : State) : Result := testBitAtHl .f2 (s.startInstr 2 12)

/-- Rule R363, `BIT 2,A`. -/
def execBit2A (s : State) : Result :=
  .next ((s.startInstr 2 8).setFlags (bitFlags .f2 (s.reg8 .a) s.cpu.flags))

/-- Rule R363, `BIT 3,B`. -/
def execBit3B (s : State) : Result :=
  .next ((s.startInstr 2 8).setFlags (bitFlags .f3 (s.reg8 .b) s.cpu.flags))

/-- Rule R363, `BIT 3,C`. -/
def execBit3C (s : State) : Result :=
  .next ((s.startInstr 2 8).setFlags (bitFlags .f3 (s.reg8 .c) s.cpu.flags))

/-- Rule R363, `BIT 3,D`. -/
def execBit3D (s : State) : Result :=
  .next ((s.startInstr 2 8).setFlags (bitFlags .f3 (s.reg8 .d) s.cpu.flags))

/-- Rule R363, `BIT 3,E`. -/
def execBit3E (s : State) : Result :=
  .next ((s.startInstr 2 8).setFlags (bitFlags .f3 (s.reg8 .e) s.cpu.flags))

/-- Rule R363, `BIT 3,H`. -/
def execBit3H (s : State) : Result :=
  .next ((s.startInstr 2 8).setFlags (bitFlags .f3 (s.reg8 .h) s.cpu.flags))

/-- Rule R363, `BIT 3,L`. -/
def execBit3L (s : State) : Result :=
  .next ((s.startInstr 2 8).setFlags (bitFlags .f3 (s.reg8 .l) s.cpu.flags))

/-- Rule R363, `BIT 3,(HL)`. -/
def execBit3Mhl (s : State) : Result := testBitAtHl .f3 (s.startInstr 2 12)

/-- Rule R363, `BIT 3,A`. -/
def execBit3A (s : State) : Result :=
  .next ((s.startInstr 2 8).setFlags (bitFlags .f3 (s.reg8 .a) s.cpu.flags))

/-- Rule R363, `BIT 4,B`. -/
def execBit4B (s : State) : Result :=
  .next ((s.startInstr 2 8).setFlags (bitFlags .f4 (s.reg8 .b) s.cpu.flags))

/-- Rule R363, `BIT 4,C`. -/
def execBit4C (s : State) : Result :=
  .next ((s.startInstr 2 8).setFlags (bitFlags .f4 (s.reg8 .c) s.cpu.flags))

/-- Rule R363, `BIT 4,D`. -/
def execBit4D (s : State) : Result :=
  .next ((s.startInstr 2 8).setFlags (bitFlags .f4 (s.reg8 .d) s.cpu.flags))

/-- Rule R363, `BIT 4,E`. -/
def execBit4E (s : State) : Result :=
  .next ((s.startInstr 2 8).setFlags (bitFlags .f4 (s.reg8 .e) s.cpu.flags))

/-- Rule R363, `BIT 4,H`. -/
def execBit4H (s : State) : Result :=
  .next ((s.startInstr 2 8).setFlags (bitFlags .f4 (s.reg8 .h) s.cpu.flags))

/-- Rule R363, `BIT 4,L`. -/
def execBit4L (s : State) : Result :=
  .next ((s.startInstr 2 8).setFlags (bitFlags .f4 (s.reg8 .l) s.cpu.flags))

/-- Rule R363, `BIT 4,(HL)`. -/
def execBit4Mhl (s : State) : Result := testBitAtHl .f4 (s.startInstr 2 12)

/-- Rule R363, `BIT 4,A`. -/
def execBit4A (s : State) : Result :=
  .next ((s.startInstr 2 8).setFlags (bitFlags .f4 (s.reg8 .a) s.cpu.flags))

/-- Rule R363, `BIT 5,B`. -/
def execBit5B (s : State) : Result :=
  .next ((s.startInstr 2 8).setFlags (bitFlags .f5 (s.reg8 .b) s.cpu.flags))

/-- Rule R363, `BIT 5,C`. -/
def execBit5C (s : State) : Result :=
  .next ((s.startInstr 2 8).setFlags (bitFlags .f5 (s.reg8 .c) s.cpu.flags))

/-- Rule R363, `BIT 5,D`. -/
def execBit5D (s : State) : Result :=
  .next ((s.startInstr 2 8).setFlags (bitFlags .f5 (s.reg8 .d) s.cpu.flags))

/-- Rule R363, `BIT 5,E`. -/
def execBit5E (s : State) : Result :=
  .next ((s.startInstr 2 8).setFlags (bitFlags .f5 (s.reg8 .e) s.cpu.flags))

/-- Rule R363, `BIT 5,H`. -/
def execBit5H (s : State) : Result :=
  .next ((s.startInstr 2 8).setFlags (bitFlags .f5 (s.reg8 .h) s.cpu.flags))

/-- Rule R363, `BIT 5,L`. -/
def execBit5L (s : State) : Result :=
  .next ((s.startInstr 2 8).setFlags (bitFlags .f5 (s.reg8 .l) s.cpu.flags))

/-- Rule R363, `BIT 5,(HL)`. -/
def execBit5Mhl (s : State) : Result := testBitAtHl .f5 (s.startInstr 2 12)

/-- Rule R363, `BIT 5,A`. -/
def execBit5A (s : State) : Result :=
  .next ((s.startInstr 2 8).setFlags (bitFlags .f5 (s.reg8 .a) s.cpu.flags))

/-- Rule R363, `BIT 6,B`. -/
def execBit6B (s : State) : Result :=
  .next ((s.startInstr 2 8).setFlags (bitFlags .f6 (s.reg8 .b) s.cpu.flags))

/-- Rule R363, `BIT 6,C`. -/
def execBit6C (s : State) : Result :=
  .next ((s.startInstr 2 8).setFlags (bitFlags .f6 (s.reg8 .c) s.cpu.flags))

/-- Rule R363, `BIT 6,D`. -/
def execBit6D (s : State) : Result :=
  .next ((s.startInstr 2 8).setFlags (bitFlags .f6 (s.reg8 .d) s.cpu.flags))

/-- Rule R363, `BIT 6,E`. -/
def execBit6E (s : State) : Result :=
  .next ((s.startInstr 2 8).setFlags (bitFlags .f6 (s.reg8 .e) s.cpu.flags))

/-- Rule R363, `BIT 6,H`. -/
def execBit6H (s : State) : Result :=
  .next ((s.startInstr 2 8).setFlags (bitFlags .f6 (s.reg8 .h) s.cpu.flags))

/-- Rule R363, `BIT 6,L`. -/
def execBit6L (s : State) : Result :=
  .next ((s.startInstr 2 8).setFlags (bitFlags .f6 (s.reg8 .l) s.cpu.flags))

/-- Rule R363, `BIT 6,(HL)`. -/
def execBit6Mhl (s : State) : Result := testBitAtHl .f6 (s.startInstr 2 12)

/-- Rule R363, `BIT 6,A`. -/
def execBit6A (s : State) : Result :=
  .next ((s.startInstr 2 8).setFlags (bitFlags .f6 (s.reg8 .a) s.cpu.flags))

/-- Rule R363, `BIT 7,B`. -/
def execBit7B (s : State) : Result :=
  .next ((s.startInstr 2 8).setFlags (bitFlags .f7 (s.reg8 .b) s.cpu.flags))

/-- Rule R363, `BIT 7,C`. -/
def execBit7C (s : State) : Result :=
  .next ((s.startInstr 2 8).setFlags (bitFlags .f7 (s.reg8 .c) s.cpu.flags))

/-- Rule R363, `BIT 7,D`. -/
def execBit7D (s : State) : Result :=
  .next ((s.startInstr 2 8).setFlags (bitFlags .f7 (s.reg8 .d) s.cpu.flags))

/-- Rule R363, `BIT 7,E`. -/
def execBit7E (s : State) : Result :=
  .next ((s.startInstr 2 8).setFlags (bitFlags .f7 (s.reg8 .e) s.cpu.flags))

/-- Rule R363, `BIT 7,H`. -/
def execBit7H (s : State) : Result :=
  .next ((s.startInstr 2 8).setFlags (bitFlags .f7 (s.reg8 .h) s.cpu.flags))

/-- Rule R363, `BIT 7,L`. -/
def execBit7L (s : State) : Result :=
  .next ((s.startInstr 2 8).setFlags (bitFlags .f7 (s.reg8 .l) s.cpu.flags))

/-- Rule R363, `BIT 7,(HL)`. -/
def execBit7Mhl (s : State) : Result := testBitAtHl .f7 (s.startInstr 2 12)

/-- Rule R363, `BIT 7,A`. -/
def execBit7A (s : State) : Result :=
  .next ((s.startInstr 2 8).setFlags (bitFlags .f7 (s.reg8 .a) s.cpu.flags))

/-- Rule R364, `RES 0,B`. -/
def execRes0B (s : State) : Result :=
  .next ((s.startInstr 2 8).setReg8 .b (resValue .f0 (s.reg8 .b)))

/-- Rule R364, `RES 0,C`. -/
def execRes0C (s : State) : Result :=
  .next ((s.startInstr 2 8).setReg8 .c (resValue .f0 (s.reg8 .c)))

/-- Rule R364, `RES 0,D`. -/
def execRes0D (s : State) : Result :=
  .next ((s.startInstr 2 8).setReg8 .d (resValue .f0 (s.reg8 .d)))

/-- Rule R364, `RES 0,E`. -/
def execRes0E (s : State) : Result :=
  .next ((s.startInstr 2 8).setReg8 .e (resValue .f0 (s.reg8 .e)))

/-- Rule R364, `RES 0,H`. -/
def execRes0H (s : State) : Result :=
  .next ((s.startInstr 2 8).setReg8 .h (resValue .f0 (s.reg8 .h)))

/-- Rule R364, `RES 0,L`. -/
def execRes0L (s : State) : Result :=
  .next ((s.startInstr 2 8).setReg8 .l (resValue .f0 (s.reg8 .l)))

/-- Rule R364, `RES 0,(HL)`. -/
def execRes0Mhl (s : State) : Result := modifyAtHl (resValue .f0) (s.startInstr 2 16)

/-- Rule R364, `RES 0,A`. -/
def execRes0A (s : State) : Result :=
  .next ((s.startInstr 2 8).setReg8 .a (resValue .f0 (s.reg8 .a)))

/-- Rule R364, `RES 1,B`. -/
def execRes1B (s : State) : Result :=
  .next ((s.startInstr 2 8).setReg8 .b (resValue .f1 (s.reg8 .b)))

/-- Rule R364, `RES 1,C`. -/
def execRes1C (s : State) : Result :=
  .next ((s.startInstr 2 8).setReg8 .c (resValue .f1 (s.reg8 .c)))

/-- Rule R364, `RES 1,D`. -/
def execRes1D (s : State) : Result :=
  .next ((s.startInstr 2 8).setReg8 .d (resValue .f1 (s.reg8 .d)))

/-- Rule R364, `RES 1,E`. -/
def execRes1E (s : State) : Result :=
  .next ((s.startInstr 2 8).setReg8 .e (resValue .f1 (s.reg8 .e)))

/-- Rule R364, `RES 1,H`. -/
def execRes1H (s : State) : Result :=
  .next ((s.startInstr 2 8).setReg8 .h (resValue .f1 (s.reg8 .h)))

/-- Rule R364, `RES 1,L`. -/
def execRes1L (s : State) : Result :=
  .next ((s.startInstr 2 8).setReg8 .l (resValue .f1 (s.reg8 .l)))

/-- Rule R364, `RES 1,(HL)`. -/
def execRes1Mhl (s : State) : Result := modifyAtHl (resValue .f1) (s.startInstr 2 16)

/-- Rule R364, `RES 1,A`. -/
def execRes1A (s : State) : Result :=
  .next ((s.startInstr 2 8).setReg8 .a (resValue .f1 (s.reg8 .a)))

/-- Rule R364, `RES 2,B`. -/
def execRes2B (s : State) : Result :=
  .next ((s.startInstr 2 8).setReg8 .b (resValue .f2 (s.reg8 .b)))

/-- Rule R364, `RES 2,C`. -/
def execRes2C (s : State) : Result :=
  .next ((s.startInstr 2 8).setReg8 .c (resValue .f2 (s.reg8 .c)))

/-- Rule R364, `RES 2,D`. -/
def execRes2D (s : State) : Result :=
  .next ((s.startInstr 2 8).setReg8 .d (resValue .f2 (s.reg8 .d)))

/-- Rule R364, `RES 2,E`. -/
def execRes2E (s : State) : Result :=
  .next ((s.startInstr 2 8).setReg8 .e (resValue .f2 (s.reg8 .e)))

/-- Rule R364, `RES 2,H`. -/
def execRes2H (s : State) : Result :=
  .next ((s.startInstr 2 8).setReg8 .h (resValue .f2 (s.reg8 .h)))

/-- Rule R364, `RES 2,L`. -/
def execRes2L (s : State) : Result :=
  .next ((s.startInstr 2 8).setReg8 .l (resValue .f2 (s.reg8 .l)))

/-- Rule R364, `RES 2,(HL)`. -/
def execRes2Mhl (s : State) : Result := modifyAtHl (resValue .f2) (s.startInstr 2 16)

/-- Rule R364, `RES 2,A`. -/
def execRes2A (s : State) : Result :=
  .next ((s.startInstr 2 8).setReg8 .a (resValue .f2 (s.reg8 .a)))

/-- Rule R364, `RES 3,B`. -/
def execRes3B (s : State) : Result :=
  .next ((s.startInstr 2 8).setReg8 .b (resValue .f3 (s.reg8 .b)))

/-- Rule R364, `RES 3,C`. -/
def execRes3C (s : State) : Result :=
  .next ((s.startInstr 2 8).setReg8 .c (resValue .f3 (s.reg8 .c)))

/-- Rule R364, `RES 3,D`. -/
def execRes3D (s : State) : Result :=
  .next ((s.startInstr 2 8).setReg8 .d (resValue .f3 (s.reg8 .d)))

/-- Rule R364, `RES 3,E`. -/
def execRes3E (s : State) : Result :=
  .next ((s.startInstr 2 8).setReg8 .e (resValue .f3 (s.reg8 .e)))

/-- Rule R364, `RES 3,H`. -/
def execRes3H (s : State) : Result :=
  .next ((s.startInstr 2 8).setReg8 .h (resValue .f3 (s.reg8 .h)))

/-- Rule R364, `RES 3,L`. -/
def execRes3L (s : State) : Result :=
  .next ((s.startInstr 2 8).setReg8 .l (resValue .f3 (s.reg8 .l)))

/-- Rule R364, `RES 3,(HL)`. -/
def execRes3Mhl (s : State) : Result := modifyAtHl (resValue .f3) (s.startInstr 2 16)

/-- Rule R364, `RES 3,A`. -/
def execRes3A (s : State) : Result :=
  .next ((s.startInstr 2 8).setReg8 .a (resValue .f3 (s.reg8 .a)))

/-- Rule R364, `RES 4,B`. -/
def execRes4B (s : State) : Result :=
  .next ((s.startInstr 2 8).setReg8 .b (resValue .f4 (s.reg8 .b)))

/-- Rule R364, `RES 4,C`. -/
def execRes4C (s : State) : Result :=
  .next ((s.startInstr 2 8).setReg8 .c (resValue .f4 (s.reg8 .c)))

/-- Rule R364, `RES 4,D`. -/
def execRes4D (s : State) : Result :=
  .next ((s.startInstr 2 8).setReg8 .d (resValue .f4 (s.reg8 .d)))

/-- Rule R364, `RES 4,E`. -/
def execRes4E (s : State) : Result :=
  .next ((s.startInstr 2 8).setReg8 .e (resValue .f4 (s.reg8 .e)))

/-- Rule R364, `RES 4,H`. -/
def execRes4H (s : State) : Result :=
  .next ((s.startInstr 2 8).setReg8 .h (resValue .f4 (s.reg8 .h)))

/-- Rule R364, `RES 4,L`. -/
def execRes4L (s : State) : Result :=
  .next ((s.startInstr 2 8).setReg8 .l (resValue .f4 (s.reg8 .l)))

/-- Rule R364, `RES 4,(HL)`. -/
def execRes4Mhl (s : State) : Result := modifyAtHl (resValue .f4) (s.startInstr 2 16)

/-- Rule R364, `RES 4,A`. -/
def execRes4A (s : State) : Result :=
  .next ((s.startInstr 2 8).setReg8 .a (resValue .f4 (s.reg8 .a)))

/-- Rule R364, `RES 5,B`. -/
def execRes5B (s : State) : Result :=
  .next ((s.startInstr 2 8).setReg8 .b (resValue .f5 (s.reg8 .b)))

/-- Rule R364, `RES 5,C`. -/
def execRes5C (s : State) : Result :=
  .next ((s.startInstr 2 8).setReg8 .c (resValue .f5 (s.reg8 .c)))

/-- Rule R364, `RES 5,D`. -/
def execRes5D (s : State) : Result :=
  .next ((s.startInstr 2 8).setReg8 .d (resValue .f5 (s.reg8 .d)))

/-- Rule R364, `RES 5,E`. -/
def execRes5E (s : State) : Result :=
  .next ((s.startInstr 2 8).setReg8 .e (resValue .f5 (s.reg8 .e)))

/-- Rule R364, `RES 5,H`. -/
def execRes5H (s : State) : Result :=
  .next ((s.startInstr 2 8).setReg8 .h (resValue .f5 (s.reg8 .h)))

/-- Rule R364, `RES 5,L`. -/
def execRes5L (s : State) : Result :=
  .next ((s.startInstr 2 8).setReg8 .l (resValue .f5 (s.reg8 .l)))

/-- Rule R364, `RES 5,(HL)`. -/
def execRes5Mhl (s : State) : Result := modifyAtHl (resValue .f5) (s.startInstr 2 16)

/-- Rule R364, `RES 5,A`. -/
def execRes5A (s : State) : Result :=
  .next ((s.startInstr 2 8).setReg8 .a (resValue .f5 (s.reg8 .a)))

/-- Rule R364, `RES 6,B`. -/
def execRes6B (s : State) : Result :=
  .next ((s.startInstr 2 8).setReg8 .b (resValue .f6 (s.reg8 .b)))

/-- Rule R364, `RES 6,C`. -/
def execRes6C (s : State) : Result :=
  .next ((s.startInstr 2 8).setReg8 .c (resValue .f6 (s.reg8 .c)))

/-- Rule R364, `RES 6,D`. -/
def execRes6D (s : State) : Result :=
  .next ((s.startInstr 2 8).setReg8 .d (resValue .f6 (s.reg8 .d)))

/-- Rule R364, `RES 6,E`. -/
def execRes6E (s : State) : Result :=
  .next ((s.startInstr 2 8).setReg8 .e (resValue .f6 (s.reg8 .e)))

/-- Rule R364, `RES 6,H`. -/
def execRes6H (s : State) : Result :=
  .next ((s.startInstr 2 8).setReg8 .h (resValue .f6 (s.reg8 .h)))

/-- Rule R364, `RES 6,L`. -/
def execRes6L (s : State) : Result :=
  .next ((s.startInstr 2 8).setReg8 .l (resValue .f6 (s.reg8 .l)))

/-- Rule R364, `RES 6,(HL)`. -/
def execRes6Mhl (s : State) : Result := modifyAtHl (resValue .f6) (s.startInstr 2 16)

/-- Rule R364, `RES 6,A`. -/
def execRes6A (s : State) : Result :=
  .next ((s.startInstr 2 8).setReg8 .a (resValue .f6 (s.reg8 .a)))

/-- Rule R364, `RES 7,B`. -/
def execRes7B (s : State) : Result :=
  .next ((s.startInstr 2 8).setReg8 .b (resValue .f7 (s.reg8 .b)))

/-- Rule R364, `RES 7,C`. -/
def execRes7C (s : State) : Result :=
  .next ((s.startInstr 2 8).setReg8 .c (resValue .f7 (s.reg8 .c)))

/-- Rule R364, `RES 7,D`. -/
def execRes7D (s : State) : Result :=
  .next ((s.startInstr 2 8).setReg8 .d (resValue .f7 (s.reg8 .d)))

/-- Rule R364, `RES 7,E`. -/
def execRes7E (s : State) : Result :=
  .next ((s.startInstr 2 8).setReg8 .e (resValue .f7 (s.reg8 .e)))

/-- Rule R364, `RES 7,H`. -/
def execRes7H (s : State) : Result :=
  .next ((s.startInstr 2 8).setReg8 .h (resValue .f7 (s.reg8 .h)))

/-- Rule R364, `RES 7,L`. -/
def execRes7L (s : State) : Result :=
  .next ((s.startInstr 2 8).setReg8 .l (resValue .f7 (s.reg8 .l)))

/-- Rule R364, `RES 7,(HL)`. -/
def execRes7Mhl (s : State) : Result := modifyAtHl (resValue .f7) (s.startInstr 2 16)

/-- Rule R364, `RES 7,A`. -/
def execRes7A (s : State) : Result :=
  .next ((s.startInstr 2 8).setReg8 .a (resValue .f7 (s.reg8 .a)))

/-- Rule R365, `SET 0,B`. -/
def execSet0B (s : State) : Result :=
  .next ((s.startInstr 2 8).setReg8 .b (setValue .f0 (s.reg8 .b)))

/-- Rule R365, `SET 0,C`. -/
def execSet0C (s : State) : Result :=
  .next ((s.startInstr 2 8).setReg8 .c (setValue .f0 (s.reg8 .c)))

/-- Rule R365, `SET 0,D`. -/
def execSet0D (s : State) : Result :=
  .next ((s.startInstr 2 8).setReg8 .d (setValue .f0 (s.reg8 .d)))

/-- Rule R365, `SET 0,E`. -/
def execSet0E (s : State) : Result :=
  .next ((s.startInstr 2 8).setReg8 .e (setValue .f0 (s.reg8 .e)))

/-- Rule R365, `SET 0,H`. -/
def execSet0H (s : State) : Result :=
  .next ((s.startInstr 2 8).setReg8 .h (setValue .f0 (s.reg8 .h)))

/-- Rule R365, `SET 0,L`. -/
def execSet0L (s : State) : Result :=
  .next ((s.startInstr 2 8).setReg8 .l (setValue .f0 (s.reg8 .l)))

/-- Rule R365, `SET 0,(HL)`. -/
def execSet0Mhl (s : State) : Result := modifyAtHl (setValue .f0) (s.startInstr 2 16)

/-- Rule R365, `SET 0,A`. -/
def execSet0A (s : State) : Result :=
  .next ((s.startInstr 2 8).setReg8 .a (setValue .f0 (s.reg8 .a)))

/-- Rule R365, `SET 1,B`. -/
def execSet1B (s : State) : Result :=
  .next ((s.startInstr 2 8).setReg8 .b (setValue .f1 (s.reg8 .b)))

/-- Rule R365, `SET 1,C`. -/
def execSet1C (s : State) : Result :=
  .next ((s.startInstr 2 8).setReg8 .c (setValue .f1 (s.reg8 .c)))

/-- Rule R365, `SET 1,D`. -/
def execSet1D (s : State) : Result :=
  .next ((s.startInstr 2 8).setReg8 .d (setValue .f1 (s.reg8 .d)))

/-- Rule R365, `SET 1,E`. -/
def execSet1E (s : State) : Result :=
  .next ((s.startInstr 2 8).setReg8 .e (setValue .f1 (s.reg8 .e)))

/-- Rule R365, `SET 1,H`. -/
def execSet1H (s : State) : Result :=
  .next ((s.startInstr 2 8).setReg8 .h (setValue .f1 (s.reg8 .h)))

/-- Rule R365, `SET 1,L`. -/
def execSet1L (s : State) : Result :=
  .next ((s.startInstr 2 8).setReg8 .l (setValue .f1 (s.reg8 .l)))

/-- Rule R365, `SET 1,(HL)`. -/
def execSet1Mhl (s : State) : Result := modifyAtHl (setValue .f1) (s.startInstr 2 16)

/-- Rule R365, `SET 1,A`. -/
def execSet1A (s : State) : Result :=
  .next ((s.startInstr 2 8).setReg8 .a (setValue .f1 (s.reg8 .a)))

/-- Rule R365, `SET 2,B`. -/
def execSet2B (s : State) : Result :=
  .next ((s.startInstr 2 8).setReg8 .b (setValue .f2 (s.reg8 .b)))

/-- Rule R365, `SET 2,C`. -/
def execSet2C (s : State) : Result :=
  .next ((s.startInstr 2 8).setReg8 .c (setValue .f2 (s.reg8 .c)))

/-- Rule R365, `SET 2,D`. -/
def execSet2D (s : State) : Result :=
  .next ((s.startInstr 2 8).setReg8 .d (setValue .f2 (s.reg8 .d)))

/-- Rule R365, `SET 2,E`. -/
def execSet2E (s : State) : Result :=
  .next ((s.startInstr 2 8).setReg8 .e (setValue .f2 (s.reg8 .e)))

/-- Rule R365, `SET 2,H`. -/
def execSet2H (s : State) : Result :=
  .next ((s.startInstr 2 8).setReg8 .h (setValue .f2 (s.reg8 .h)))

/-- Rule R365, `SET 2,L`. -/
def execSet2L (s : State) : Result :=
  .next ((s.startInstr 2 8).setReg8 .l (setValue .f2 (s.reg8 .l)))

/-- Rule R365, `SET 2,(HL)`. -/
def execSet2Mhl (s : State) : Result := modifyAtHl (setValue .f2) (s.startInstr 2 16)

/-- Rule R365, `SET 2,A`. -/
def execSet2A (s : State) : Result :=
  .next ((s.startInstr 2 8).setReg8 .a (setValue .f2 (s.reg8 .a)))

/-- Rule R365, `SET 3,B`. -/
def execSet3B (s : State) : Result :=
  .next ((s.startInstr 2 8).setReg8 .b (setValue .f3 (s.reg8 .b)))

/-- Rule R365, `SET 3,C`. -/
def execSet3C (s : State) : Result :=
  .next ((s.startInstr 2 8).setReg8 .c (setValue .f3 (s.reg8 .c)))

/-- Rule R365, `SET 3,D`. -/
def execSet3D (s : State) : Result :=
  .next ((s.startInstr 2 8).setReg8 .d (setValue .f3 (s.reg8 .d)))

/-- Rule R365, `SET 3,E`. -/
def execSet3E (s : State) : Result :=
  .next ((s.startInstr 2 8).setReg8 .e (setValue .f3 (s.reg8 .e)))

/-- Rule R365, `SET 3,H`. -/
def execSet3H (s : State) : Result :=
  .next ((s.startInstr 2 8).setReg8 .h (setValue .f3 (s.reg8 .h)))

/-- Rule R365, `SET 3,L`. -/
def execSet3L (s : State) : Result :=
  .next ((s.startInstr 2 8).setReg8 .l (setValue .f3 (s.reg8 .l)))

/-- Rule R365, `SET 3,(HL)`. -/
def execSet3Mhl (s : State) : Result := modifyAtHl (setValue .f3) (s.startInstr 2 16)

/-- Rule R365, `SET 3,A`. -/
def execSet3A (s : State) : Result :=
  .next ((s.startInstr 2 8).setReg8 .a (setValue .f3 (s.reg8 .a)))

/-- Rule R365, `SET 4,B`. -/
def execSet4B (s : State) : Result :=
  .next ((s.startInstr 2 8).setReg8 .b (setValue .f4 (s.reg8 .b)))

/-- Rule R365, `SET 4,C`. -/
def execSet4C (s : State) : Result :=
  .next ((s.startInstr 2 8).setReg8 .c (setValue .f4 (s.reg8 .c)))

/-- Rule R365, `SET 4,D`. -/
def execSet4D (s : State) : Result :=
  .next ((s.startInstr 2 8).setReg8 .d (setValue .f4 (s.reg8 .d)))

/-- Rule R365, `SET 4,E`. -/
def execSet4E (s : State) : Result :=
  .next ((s.startInstr 2 8).setReg8 .e (setValue .f4 (s.reg8 .e)))

/-- Rule R365, `SET 4,H`. -/
def execSet4H (s : State) : Result :=
  .next ((s.startInstr 2 8).setReg8 .h (setValue .f4 (s.reg8 .h)))

/-- Rule R365, `SET 4,L`. -/
def execSet4L (s : State) : Result :=
  .next ((s.startInstr 2 8).setReg8 .l (setValue .f4 (s.reg8 .l)))

/-- Rule R365, `SET 4,(HL)`. -/
def execSet4Mhl (s : State) : Result := modifyAtHl (setValue .f4) (s.startInstr 2 16)

/-- Rule R365, `SET 4,A`. -/
def execSet4A (s : State) : Result :=
  .next ((s.startInstr 2 8).setReg8 .a (setValue .f4 (s.reg8 .a)))

/-- Rule R365, `SET 5,B`. -/
def execSet5B (s : State) : Result :=
  .next ((s.startInstr 2 8).setReg8 .b (setValue .f5 (s.reg8 .b)))

/-- Rule R365, `SET 5,C`. -/
def execSet5C (s : State) : Result :=
  .next ((s.startInstr 2 8).setReg8 .c (setValue .f5 (s.reg8 .c)))

/-- Rule R365, `SET 5,D`. -/
def execSet5D (s : State) : Result :=
  .next ((s.startInstr 2 8).setReg8 .d (setValue .f5 (s.reg8 .d)))

/-- Rule R365, `SET 5,E`. -/
def execSet5E (s : State) : Result :=
  .next ((s.startInstr 2 8).setReg8 .e (setValue .f5 (s.reg8 .e)))

/-- Rule R365, `SET 5,H`. -/
def execSet5H (s : State) : Result :=
  .next ((s.startInstr 2 8).setReg8 .h (setValue .f5 (s.reg8 .h)))

/-- Rule R365, `SET 5,L`. -/
def execSet5L (s : State) : Result :=
  .next ((s.startInstr 2 8).setReg8 .l (setValue .f5 (s.reg8 .l)))

/-- Rule R365, `SET 5,(HL)`. -/
def execSet5Mhl (s : State) : Result := modifyAtHl (setValue .f5) (s.startInstr 2 16)

/-- Rule R365, `SET 5,A`. -/
def execSet5A (s : State) : Result :=
  .next ((s.startInstr 2 8).setReg8 .a (setValue .f5 (s.reg8 .a)))

/-- Rule R365, `SET 6,B`. -/
def execSet6B (s : State) : Result :=
  .next ((s.startInstr 2 8).setReg8 .b (setValue .f6 (s.reg8 .b)))

/-- Rule R365, `SET 6,C`. -/
def execSet6C (s : State) : Result :=
  .next ((s.startInstr 2 8).setReg8 .c (setValue .f6 (s.reg8 .c)))

/-- Rule R365, `SET 6,D`. -/
def execSet6D (s : State) : Result :=
  .next ((s.startInstr 2 8).setReg8 .d (setValue .f6 (s.reg8 .d)))

/-- Rule R365, `SET 6,E`. -/
def execSet6E (s : State) : Result :=
  .next ((s.startInstr 2 8).setReg8 .e (setValue .f6 (s.reg8 .e)))

/-- Rule R365, `SET 6,H`. -/
def execSet6H (s : State) : Result :=
  .next ((s.startInstr 2 8).setReg8 .h (setValue .f6 (s.reg8 .h)))

/-- Rule R365, `SET 6,L`. -/
def execSet6L (s : State) : Result :=
  .next ((s.startInstr 2 8).setReg8 .l (setValue .f6 (s.reg8 .l)))

/-- Rule R365, `SET 6,(HL)`. -/
def execSet6Mhl (s : State) : Result := modifyAtHl (setValue .f6) (s.startInstr 2 16)

/-- Rule R365, `SET 6,A`. -/
def execSet6A (s : State) : Result :=
  .next ((s.startInstr 2 8).setReg8 .a (setValue .f6 (s.reg8 .a)))

/-- Rule R365, `SET 7,B`. -/
def execSet7B (s : State) : Result :=
  .next ((s.startInstr 2 8).setReg8 .b (setValue .f7 (s.reg8 .b)))

/-- Rule R365, `SET 7,C`. -/
def execSet7C (s : State) : Result :=
  .next ((s.startInstr 2 8).setReg8 .c (setValue .f7 (s.reg8 .c)))

/-- Rule R365, `SET 7,D`. -/
def execSet7D (s : State) : Result :=
  .next ((s.startInstr 2 8).setReg8 .d (setValue .f7 (s.reg8 .d)))

/-- Rule R365, `SET 7,E`. -/
def execSet7E (s : State) : Result :=
  .next ((s.startInstr 2 8).setReg8 .e (setValue .f7 (s.reg8 .e)))

/-- Rule R365, `SET 7,H`. -/
def execSet7H (s : State) : Result :=
  .next ((s.startInstr 2 8).setReg8 .h (setValue .f7 (s.reg8 .h)))

/-- Rule R365, `SET 7,L`. -/
def execSet7L (s : State) : Result :=
  .next ((s.startInstr 2 8).setReg8 .l (setValue .f7 (s.reg8 .l)))

/-- Rule R365, `SET 7,(HL)`. -/
def execSet7Mhl (s : State) : Result := modifyAtHl (setValue .f7) (s.startInstr 2 16)

/-- Rule R365, `SET 7,A`. -/
def execSet7A (s : State) : Result :=
  .next ((s.startInstr 2 8).setReg8 .a (setValue .f7 (s.reg8 .a)))

end Sys2Proof.Machine
end

