-- ==== Sys2Proof/Machine/System.lean ====
section
/-! DEFINITION. The system instructions and the illegal bytes (46_system.md rules R400-R407).
Each meaning starts with `startInstr`, the bytes of the instruction and its cost (R740). -/

namespace Sys2Proof.Machine

/-- Rule R400, `NOP`. -/
def execNop (s : State) : Result := .next (s.startInstr 1 4)

/-- Rule R403, `STOP`. -/
def execStop (_n : Byte) (s : State) : Result := .next (s.startInstr 2 4).enterStop

/-- Rule R402, `HALT`. -/
def execHalt (s : State) : Result := .next (s.startInstr 1 4).enterHalt

/-- Rule R407, `0xD3`. -/
def execInvalidD3 (s : State) : Result := .fault (.invalidOpcode 0xD3 s.cpu.pc)

/-- Rule R407, `0xDB`. -/
def execInvalidDB (s : State) : Result := .fault (.invalidOpcode 0xDB s.cpu.pc)

/-- Rule R407, `0xDD`. -/
def execInvalidDD (s : State) : Result := .fault (.invalidOpcode 0xDD s.cpu.pc)

/-- Rule R407, `0xE3`. -/
def execInvalidE3 (s : State) : Result := .fault (.invalidOpcode 0xE3 s.cpu.pc)

/-- Rule R407, `0xE4`. -/
def execInvalidE4 (s : State) : Result := .fault (.invalidOpcode 0xE4 s.cpu.pc)

/-- Rule R407, `0xEB`. -/
def execInvalidEB (s : State) : Result := .fault (.invalidOpcode 0xEB s.cpu.pc)

/-- Rule R407, `0xEC`. -/
def execInvalidEC (s : State) : Result := .fault (.invalidOpcode 0xEC s.cpu.pc)

/-- Rule R407, `0xED`. -/
def execInvalidED (s : State) : Result := .fault (.invalidOpcode 0xED s.cpu.pc)

/-- Rule R404, `DI`. -/
def execDi (s : State) : Result := .next (s.startInstr 1 4).disableInterrupts

/-- Rule R407, `0xF4`. -/
def execInvalidF4 (s : State) : Result := .fault (.invalidOpcode 0xF4 s.cpu.pc)

/-- Rule R405, `EI`. -/
def execEi (s : State) : Result := .next (s.startInstr 1 4).enableInterrupts

/-- Rule R407, `0xFC`. -/
def execInvalidFC (s : State) : Result := .fault (.invalidOpcode 0xFC s.cpu.pc)

/-- Rule R407, `0xFD`. -/
def execInvalidFD (s : State) : Result := .fault (.invalidOpcode 0xFD s.cpu.pc)

end Sys2Proof.Machine
end

