-- ==== Sys2Proof/Machine/Orchestrator.lean ====
section
/-! DEFINITION. The step: CPU phase, device phase, end phase (66_orchestrator.md rules R690-R692), the
fetch (30_encoding.md rule R221) and the placing of an instruction where it is fetched. -/

namespace Sys2Proof.Machine

/-! ## Fetch -/

/-- Rules R221, R402: the address of the `k`-th byte after the opcode; one less under the HALT bug. -/
def State.operandAddr (s : State) (k : Nat) : Word :=
  wordAdd s.cpu.pc (fetchAdvance s.cpu.haltBug k)

/-- Rules R206, R220, R221: the instruction at PC, read byte by byte with the CPU's own reads, handed
on with the state after those reads. PC moves when the instruction starts (`startInstr`). -/
def fetchThen {α : Type} (s : State) (k : Instr → State → Answer α) : Answer α :=
  withRead s.cpu.pc s fun op t =>
    let entry := opcodeEntry op
    match entry.length with
    | 1 => k (entry.build 0 0) t
    | 2 => withRead (t.operandAddr 1) t fun n1 u => k (entry.build n1 0) u
    | _ =>
      withRead (t.operandAddr 1) t fun n1 u =>
        withRead (u.operandAddr 2) u fun n2 v => k (entry.build n1 n2) v

/-! ## CPU phase -/

/-- Rule R405: the promotion of an EI delay that was set before the instruction. -/
def State.promote (delay : Bool) (s : State) : State :=
  if delay && s.cpu.imeDelay then s.withCpu { s.cpu with ime := true, imeDelay := false } else s

/-- Rule R425: a dispatch is due. -/
def State.dispatches (s : State) : Bool := s.cpu.ime && s.ints.pending != 0

/-- Rules R405, R690: one instruction, fetched, executed and followed by the promotion. -/
def runInstr (s : State) : Result :=
  chain (fetchThen s exec) fun t => .next (t.promote s.cpu.imeDelay)

/-- Rules R425, R690: a dispatch, or else an instruction. -/
def runAwake (s : State) : Result :=
  if s.dispatches then takeInterrupt (firstPending s.ints.pending) s else runInstr s

/-- Rule R429: the CPU leaves HALT. -/
def State.wake (s : State) : State := (s.withCpu { s.cpu with halted := false }).addCost 4

/-- Rule R690: the cost counter at the start of a step (log 10). -/
def State.beginStep (s : State) : State := { s with stepCost := 0 }

/-- Rules R403, R429: the CPU stays idle in this step. -/
def State.idles (s : State) : Bool := s.cpu.stopped || (s.cpu.halted && s.ints.pending == 0)

/-- Rule R690: the CPU phase. -/
def cpuPhase (s : State) : Result :=
  let t := s.beginStep
  if t.idles then .next (t.addCost 4)
  else if t.cpu.halted then runAwake t.wake
  else runAwake t

/-! ## Device phase -/

/-- Rules R460, R468. -/
def State.timerPhase (s : State) : State :=
  if s.enable.timer then
    (s.withTimer s.timer.tick.1).withInts (s.ints.requestIf s.timer.tick.2 2)
  else s

/-- Rules R513, R516. -/
def State.dmaPhase (s : State) : State := if s.enable.dma then s.dmaTick else s

/-- Rules R492, R494. -/
def State.serialPhase (s : State) : State :=
  if s.enable.serial then
    (s.withSerial (s.serial.tick s.cycles).1).withInts
      (s.ints.requestIf (s.serial.tick s.cycles).2 3)
  else s

/-- Rules R600, R672. -/
def State.apuPhase (s : State) : State :=
  if s.enable.apu then s.withApu (s.apu.tick s.mem.waveRam) else s

/-- Rules R533, R536, R539, R544: the PPU's tick and its requests. -/
def State.ppuPhase (s : State) : State :=
  if s.enable.ppu then
    let r := s.ppu.tick s.model s.draws s.mem.vram s.mem.oam
    { s with
      ppu := r.ppu
      ints := (s.ints.requestIf r.vblank 0).requestIf r.stat 1
      draws := s.draws + r.drawn }
  else s

/-- Rules R194, R690. -/
def State.rtcPhase (s : State) : State := { s with cart := s.cart.rtcTick }

/-- Rule R690: the master cycle counter, `cycles_now`. -/
def State.countCycle (s : State) : State := { s with cycles := s.cycles + 1 }

/-- Rule R692: the devices that a stopped step freezes, in their fixed order. -/
def State.devices (s : State) : State :=
  s.timerPhase.dmaPhase.serialPhase.apuPhase.ppuPhase

/-- Rules R690, R692: one master cycle of the device phase. -/
def State.masterCycle (frozen : Bool) (s : State) : State :=
  (if frozen then s.countCycle else s.countCycle.devices).rtcPhase

/-- Rule R690: the device phase of `n` master cycles. -/
def devicePhase (frozen : Bool) : Nat → State → State
  | 0, s => s
  | n + 1, s => devicePhase frozen n (s.masterCycle frozen)

/-! ## End phase -/

/-- Rule R501: the joypad sample. -/
def State.sampleJoypad (s : State) : State :=
  { s with
    joypad := (s.joypad.sample s.cycles).1
    ints := s.ints.requestIf (s.joypad.sample s.cycles).2 4 }

/-- Rules R403, R690: the end of a step that started stopped. -/
def State.leaveStop (frozen : Bool) (s : State) : State :=
  if frozen && s.joypad.wakes s.cycles then s.withCpu { s.cpu with stopped := false } else s

/-- Rule R690: the end phase. -/
def endPhase (frozen : Bool) (s : State) : State := s.sampleJoypad.leaveStop frozen

/-- Rules R440, R690: the step. -/
def runStep (s : State) : Result :=
  match s.fault with
  | some f => .fault f
  | none =>
    chain (cpuPhase s) fun t =>
      .next (endPhase s.cpu.stopped (devicePhase s.cpu.stopped t.stepCost t))

/-! ## Placing an instruction (log 14) -/

/-- A byte put into the storage an address reaches, past every gate; I/O registers and the unusable
region have no storage to put it into. -/
def State.placeByte (s : State) (addr : Word) (v : Byte) : State :=
  match s.target addr with
  | .rom a => s.withMem { s.mem with rom := Store.write s.mem.rom (s.cart.romOffset a) v }
  | .vram o => s.withMem { s.mem with vram := Store.write s.mem.vram o v }
  | .cartRam a => s.withMem { s.mem with cartRam := cartRamStore s.cart s.mem.cartRam a v }
  | .wram o => s.withMem { s.mem with wram := Store.write s.mem.wram o v }
  | .oam o => s.withMem { s.mem with oam := Store.write s.mem.oam o v }
  | .hram o => s.withMem { s.mem with hram := Store.write s.mem.hram o v }
  | .ie => s.withInts { s.ints with ie := v }
  | .unusable | .io _ => s

/-- Bytes placed at rising addresses. -/
def State.placeBytes (s : State) (addr : Word) : List Byte → State
  | [] => s
  | v :: vs => (s.placeByte addr v).placeBytes (addr + 1) vs

/-- What would keep the next step from fetching at PC, cleared where it is set: a fault, STOP, HALT, a
due dispatch, a HALT bug and an OAM-DMA transfer that holds the bus. -/
def State.readyToFetch (s : State) : State :=
  { s with
    fault := none
    cpu := { s.cpu with
      stopped := false, halted := false, haltBug := false, ime := s.cpu.ime && !s.dispatches }
    dma := { s.dma with active := s.dma.active && !s.busTaken s.cpu.pc } }

/-- The table's instruction stored where the next step fetches, ready to be fetched. -/
def State.placeTableWord (s : State) (nbits w : Nat) : State :=
  (s.placeBytes s.cpu.pc (tableBytes nbits w)).readyToFetch

end Sys2Proof.Machine
end

