-- ==== Sys2Proof/Machine/Step.lean ====
section
/-! DEFINITION. The machine's transition (66_orchestrator.md rule R690), and an instruction placed
where it is fetched (log 14). -/

namespace Sys2Proof.Machine

/-- Rule R690: one step. Its cost is the new state's `stepCost` (R694, log 10). -/
def step (s : State) : Host.Outcome State Fault Refusal := runStep s

/-- An instruction of the opcode table stored where `step` fetches its next instruction (log 14). -/
def State.withFetchWord (s : State) (nbits w : Nat) : State := s.placeTableWord nbits w

end Sys2Proof.Machine
end

