-- ==== Sys2Proof/Machine/Load.lean ====
section
/-! DEFINITION. Loading a cartridge: header checks, load errors and the reset state of every mode
(20_memory.md rules R170-R178, 66_orchestrator.md rule R703, 10_state.md rules R120-R123). -/

namespace Sys2Proof.Machine

/-- Rule R170: raw ROM bytes: a length, and the bytes that are not zero (log 15). -/
structure RomImage where
  length : Nat
  bytes : Store
  deriving DecidableEq, Repr

/-- Rule R175: the ways a header or image is malformed, in the order they are checked. -/
inductive HeaderFault where
  | truncated
  | romSizeCode (code : Byte)
  | lengthMismatch
  | ramSizeCode (code : Byte)
  deriving DecidableEq, Repr

/-- Rules R175, R177: the two load errors. -/
inductive LoadFailure where
  | loadError (why : HeaderFault)
  | unsupportedMapper (code : Byte)
  deriving DecidableEq, Repr

/-- Rules R193, R202, R706: the MBC3 clock as it is kept between runs: the live registers, the latched
copies and the master cycles into the current second (log 22). -/
structure RtcImage where
  live : Rtc
  latched : Rtc
  sub : Nat
  deriving DecidableEq, Repr

/-- Rule R8: the launch parameters `load` takes beside the image, the mode and the enables; `rtc` is the
MBC3 clock that R202 lets be loaded and R722 leaves open (log 22). -/
structure LaunchParams where
  initialMemory : Memory
  cartRamImage : Option Store
  rtc : RtcImage
  sysclkStart : Word
  ppuLy : Nat
  ppuDot : Nat
  penalties : List (PenaltyKey × Nat)
  palette : Palette
  schedule : List (Nat × Buttons)
  peerBits : List PeerBit
  peerEdges : List Nat
  sampleRate : Nat
  version : String
  obp0 : Byte
  obp1 : Byte
  deriving DecidableEq, Repr

/-- Memory with nothing listed (log 2). -/
def Memory.blank : Memory := ⟨[], [], [], [], [], [], []⟩

/-- Rule R178: every RTC register 0. -/
def Rtc.zero : Rtc := ⟨0, 0, 0, 0, false, false⟩

/-- Rules R178, R722: the clock's default, all zero (D30). -/
def RtcImage.zero : RtcImage := ⟨Rtc.zero, Rtc.zero, 0⟩

/-- Rule R8: the defaults. -/
def LaunchParams.default : LaunchParams where
  initialMemory := Memory.blank
  cartRamImage := none
  rtc := RtcImage.zero
  sysclkStart := 0xABCC
  ppuLy := 0
  ppuDot := 0
  penalties := []
  palette := Palette.greys
  schedule := []
  peerBits := []
  peerEdges := []
  sampleRate := 44100
  version := "CORE"
  obp0 := 0xFF
  obp1 := 0xFF

/-- Any list of bytes brought into canonical form. -/
def Store.normalize (m : Store) : Store := m.foldl (fun acc c => Store.write acc c.1 c.2) []

/-- Rule R171: a header byte. -/
def RomImage.header (rom : RomImage) (offset : Nat) : Byte := Store.read (Store.normalize rom.bytes) offset

/-- Rule R172: the ROM banks of a size code. -/
def romBanksOf (code : Byte) : Option Nat := if code.toNat ≤ 8 then some (2 * 2 ^ code.toNat) else none

/-- Rule R173: the RAM bytes and banks of a size code. -/
def ramSizeOf (code : Byte) : Option (Nat × Nat) :=
  match code.toNat with
  | 0 => some (0, 0)
  | 1 => some (0x800, 1)
  | 2 => some (0x2000, 1)
  | 3 => some (0x8000, 4)
  | 4 => some (0x20000, 16)
  | 5 => some (0x10000, 8)
  | _ => none

/-- Rule R178: MBC1 at reset. -/
def Mapper.mbc1Reset : Mapper := .mbc1 ⟨false, 1, 0, false⟩

/-- Rule R178: MBC2 at reset. -/
def Mapper.mbc2Reset : Mapper := .mbc2 ⟨false, 1⟩

/-- Rule R178: MBC3 at reset, before a clock is loaded. -/
def Mapper.mbc3Reset (hasRtc : Bool) : Mapper := .mbc3 ⟨false, 1, 0, false, Rtc.zero, Rtc.zero, 0, hasRtc⟩

/-- Rule R178: MBC5 at reset. -/
def Mapper.mbc5Reset (rumble : Bool) : Mapper := .mbc5 ⟨false, 1, 0, rumble⟩

/-- Rule R174: the mapper of a cartridge type, and whether it has a battery. -/
def mapperOf (code : Byte) : Option (Mapper × Bool) :=
  match code.toNat with
  | 0x00 => some (.none, false)
  | 0x01 => some (Mapper.mbc1Reset, false)
  | 0x02 => some (Mapper.mbc1Reset, false)
  | 0x03 => some (Mapper.mbc1Reset, true)
  | 0x05 => some (Mapper.mbc2Reset, false)
  | 0x06 => some (Mapper.mbc2Reset, true)
  | 0x08 => some (.none, false)
  | 0x09 => some (.none, true)
  | 0x0F => some (Mapper.mbc3Reset true, true)
  | 0x10 => some (Mapper.mbc3Reset true, true)
  | 0x11 => some (Mapper.mbc3Reset false, false)
  | 0x12 => some (Mapper.mbc3Reset false, false)
  | 0x13 => some (Mapper.mbc3Reset false, true)
  | 0x19 => some (Mapper.mbc5Reset false, false)
  | 0x1A => some (Mapper.mbc5Reset false, false)
  | 0x1B => some (Mapper.mbc5Reset false, true)
  | 0x1C => some (Mapper.mbc5Reset true, false)
  | 0x1D => some (Mapper.mbc5Reset true, false)
  | 0x1E => some (Mapper.mbc5Reset true, true)
  | _ => none

/-- Rules R173, R188: MBC2 has its own 512 cells whatever the RAM size code. -/
def cartridgeOf (romBanks : Nat) (ram : Nat × Nat) (m : Mapper × Bool) : Cartridge :=
  match m.1 with
  | .mbc2 _ => { romBanks := romBanks, ramSize := 512, ramBanks := 1, battery := m.2, mapper := m.1 }
  | .none | .mbc1 _ | .mbc3 _ | .mbc5 _ =>
    { romBanks := romBanks, ramSize := ram.1, ramBanks := ram.2, battery := m.2, mapper := m.1 }

/-- Rules R175-R177: the cartridge of an image, or the first failing check (log 16). -/
def parseHeader (rom : RomImage) : Except LoadFailure Cartridge :=
  if rom.length < Config.headerEnd then .error (.loadError .truncated)
  else
    match romBanksOf (rom.header 0x148) with
    | none => .error (.loadError (.romSizeCode (rom.header 0x148)))
    | some banks =>
      if rom.length ≠ banks * 0x4000 then .error (.loadError .lengthMismatch)
      else
        match ramSizeOf (rom.header 0x149) with
        | none => .error (.loadError (.ramSizeCode (rom.header 0x149)))
        | some ram =>
          match mapperOf (rom.header 0x147) with
          | none => .error (.unsupportedMapper (rom.header 0x147))
          | some m => .ok (cartridgeOf banks ram m)

/-- Rule R120: the CPU registers after reset, by mode. -/
def Cpu.resetFor (mode : ConsoleMode) (checksum : Byte) : Cpu :=
  let base := State.reset.cpu
  match mode with
  | .dmg => { base with flags := ⟨true, false, checksum != 0, checksum != 0⟩ }
  | .sgb =>
    { base with
      a := 0x01, flags := ⟨false, false, false, false⟩, b := 0x00, c := 0x14, d := 0x00, e := 0x00
      h := 0xC0, l := 0x60 }
  | .cgb =>
    { base with
      a := 0x11, flags := ⟨true, false, false, false⟩, b := 0x00, c := 0x00, d := 0xFF, e := 0x56
      h := 0x00, l := 0x0D }

/-- Rules R121, R122, R561: the PPU after reset. -/
def Ppu.resetFor (p : LaunchParams) : Ppu :=
  { State.reset.ppu with
    obp0 := p.obp0
    obp1 := p.obp1
    ly := p.ppuLy
    dot := p.ppuDot
    mode := modeOf p.ppuLy p.ppuDot 172
    lycMatch := p.ppuLy == 0
    framebuffer := blankFrame p.palette.c0
    palette := p.palette
    penalties := p.penalties }

/-- Rule R123: the memories after reset. Bytes of a loaded RAM image that the cartridge has no cell for are
kept and saved again, though no access of the machine reaches them (log 23). -/
def Memory.resetFor (rom : RomImage) (p : LaunchParams) : Memory where
  rom := Store.normalize rom.bytes
  vram := Store.normalize p.initialMemory.vram
  wram := Store.normalize p.initialMemory.wram
  oam := Store.normalize p.initialMemory.oam
  hram := Store.normalize p.initialMemory.hram
  cartRam := Store.normalize (p.cartRamImage.getD p.initialMemory.cartRam)
  waveRam := []

/-- Rules R122, R501: the joypad after reset. -/
def Joypad.resetFor (p : LaunchParams) : Joypad :=
  let j : Joypad := { select := 0, prev := 0xF, schedule := p.schedule }
  { j with prev := j.lines 0 }

/-- Rules R193, R202, R722: the clock as loaded, in a mapper that has one. -/
def Mapper.withRtc (r : RtcImage) : Mapper → Mapper
  | .mbc3 m =>
    if m.hasRtc then .mbc3 { m with rtc := r.live, latched := r.latched, sub := r.sub } else .mbc3 m
  | .none => .none
  | .mbc1 m => .mbc1 m
  | .mbc2 m => .mbc2 m
  | .mbc5 m => .mbc5 m

/-- Rules R178, R202, R722: the cartridge after a load. -/
def Cartridge.resetFor (c : Cartridge) (p : LaunchParams) : Cartridge :=
  { c with mapper := c.mapper.withRtc p.rtc }

/-- Rules R120-R123, R720: the machine after a load. -/
def State.resetFor (c : Cartridge) (rom : RomImage) (mode : ConsoleMode) (enable : Enables)
    (p : LaunchParams) : State :=
  { State.reset with
    cpu := Cpu.resetFor mode (rom.header 0x14D)
    joypad := Joypad.resetFor p
    serial := { State.reset.serial with peerBits := p.peerBits, peerEdges := p.peerEdges }
    timer := { State.reset.timer with sysclk := p.sysclkStart }
    ppu := Ppu.resetFor p
    apu := { State.reset.apu with sampleRate := p.sampleRate }
    cart := c.resetFor p
    mem := Memory.resetFor rom p
    model := mode
    enable := enable
    version := p.version }

/-- Rule R703: `load(rom, mode, enable, params)`. -/
def load (rom : RomImage) (mode : ConsoleMode) (enable : Enables) (p : LaunchParams) :
    Except LoadFailure State :=
  match parseHeader rom with
  | .error e => .error e
  | .ok c => .ok (State.resetFor c rom mode enable p)

end Sys2Proof.Machine
end

