-- ==== Sys2Proof/Machine/HostOps.lean ====
section
/-! DEFINITION. The host's operations on a loaded machine, between steps (66_orchestrator.md rules
R694-R706). -/

namespace Sys2Proof.Machine

/-- Rules R440, R694: how a host stepping call ends. -/
inductive StepReport where
  | done
  | fault (f : Fault)
  | refused (r : Refusal)
  deriving DecidableEq, Repr

/-- Rules R440, R694: `clock()`: the machine, the cost of the step it ran, and how it ended. A fault is
kept in the machine (R40, log 13). -/
def clock (s : State) : State × Nat × StepReport :=
  match step s with
  | .next t => (t, t.stepCost, .done)
  | .fault f => ({ s with fault := some f }, 0, .fault f)
  | .refused r => (s, 0, .refused r)

/-- Rules R695, R696: steps until `target` master cycles have run in this call. Every step costs at
least 4 (R691), so `target` steps are enough. -/
def runCycles (target : Nat) : Nat → Nat → State → State × Nat × StepReport
  | 0, total, s => (s, total, .done)
  | fuel + 1, total, s =>
    if target ≤ total then (s, total, .done)
    else
      match clock s with
      | (t, cost, .done) => runCycles target fuel (total + cost) t
      | (t, _, report) => (t, total, report)

/-- Rule R695: `clock_m(count)`. -/
def clockM (count : Nat) (s : State) : State × Nat × StepReport := runCycles (4 * count) (4 * count) 0 s

/-- Rule R696: `clocks(count)`. -/
def clocks (count : Nat) (s : State) : State × Nat × StepReport := runCycles count count 0 s

/-- Rule R697: steps until a frame completes or a frame's time has run. -/
def runFrame : Nat → Nat → State → State × Nat × StepReport
  | 0, total, s => (s, total, .done)
  | fuel + 1, total, s =>
    match clock s with
    | (t, cost, .done) =>
      if t.ppu.frameComplete || decide (Config.frameCycles ≤ total + cost) then (t, total + cost, .done)
      else runFrame fuel (total + cost) t
    | (t, _, report) => (t, total, report)

/-- Rule R697: `next_frame()`; whether a frame completed is the machine's `frameComplete`. -/
def nextFrame (s : State) : State × Nat × StepReport :=
  runFrame Config.frameCycles 0 (s.withPpu { s.ppu with frameComplete := false })

/-- Rule R699: the five subsystems. -/
inductive Subsystem where
  | ppu | apu | dma | timer | serial
  deriving DecidableEq, Repr

/-- Rule R699: `set_enabled(s, b)`. -/
def setEnabled (x : Subsystem) (b : Bool) (s : State) : State :=
  { s with enable :=
      match x with
      | .ppu => { s.enable with ppu := b }
      | .apu => { s.enable with apu := b }
      | .dma => { s.enable with dma := b }
      | .timer => { s.enable with timer := b }
      | .serial => { s.enable with serial := b } }

/-- Rule R699: `is_enabled(s)`. -/
def isEnabled (x : Subsystem) (s : State) : Bool :=
  match x with
  | .ppu => s.enable.ppu
  | .apu => s.enable.apu
  | .dma => s.enable.dma
  | .timer => s.enable.timer
  | .serial => s.enable.serial

/-- Rule R700: `framebuffer()`. -/
def framebuffer (s : State) : List (List Rgb) := s.ppu.framebuffer

/-- Rules R671, R700: `audio_samples()`: the samples, and the machine without them. -/
def audioSamples (s : State) : List (Nat × Nat) × State :=
  (s.apu.samples, s.withApu { s.apu with samples := [] })

/-- Rule R700: `version()`. -/
def version (s : State) : String := s.version

/-- Rule R700: `clock_frequency()`. -/
def clockFrequency : Nat := Config.clockFrequency

/-- Rule R700: `cycles()`. -/
def cycles (s : State) : Nat := s.cycles

/-- Rule R700: the CPU part of `registers()`. -/
def cpuRegisters (s : State) : List Byte × List Word × Bool :=
  ([s.cpu.a, s.cpu.flags.toByte, s.cpu.b, s.cpu.c, s.cpu.d, s.cpu.e, s.cpu.h, s.cpu.l],
    [s.cpu.sp, s.cpu.pc], s.cpu.ime)

/-- Rule R700: the I/O part of `registers()`: a register as a CPU read returns it, without the
OAM-DMA gate and without side effects (log 17). -/
def ioRegister (addr : Word) (s : State) : ReadResult := s.regionRead addr

/-- Rules R441, R705: the host palette error. -/
inductive PaletteError where
  | invalidPalette
  deriving DecidableEq, Repr

/-- Rule R705: `set_palette(colors)`. -/
def setPalette (colors : List Rgb) (s : State) : Except PaletteError State :=
  match colors with
  | [c0, c1, c2, c3] => .ok (s.withPpu { s.ppu with palette := ⟨c0, c1, c2, c3⟩ })
  | _ => .error .invalidPalette

/-- Rules R202, R706: the cartridge RAM for saving. -/
def savedRam (s : State) : Store := s.mem.cartRam

/-- Rules R202, R706: the MBC3 clock for saving, as `load` takes it (log 22). -/
def savedRtc (s : State) : Option RtcImage :=
  match s.cart.mapper with
  | .mbc3 m => if m.hasRtc then some ⟨m.rtc, m.latched, m.sub⟩ else none
  | .none | .mbc1 _ | .mbc2 _ | .mbc5 _ => none

/-- Rule R701: the host changes `buttons` (log 5). -/
def setButtons (schedule : List (Nat × Buttons)) (s : State) : State :=
  { s with joypad := { s.joypad with schedule := schedule } }

/-- Rules R490, R701: the host changes `serial_peer` (log 6). -/
def setPeer (bits : List PeerBit) (edges : List Nat) (s : State) : State :=
  s.withSerial { s.serial with peerBits := bits, peerEdges := edges }

end Sys2Proof.Machine
end

