-- ==== Sys2Proof/Safety.lean ====
section
/-! DEFINITION. What counts as a legal state (the ranges 10_state.md gives the machine's fields, with the
relations between fields that its rules keep), and the words statements say frames in. -/

namespace Sys2Proof

/-! ## The operand codes of 30_encoding.md -/

/-- Rule R224. -/
def Reg8.code : Reg8 → Nat
  | .b => 0 | .c => 1 | .d => 2 | .e => 3 | .h => 4 | .l => 5 | .a => 7

/-- Rule R225. -/
def Reg16.code : Reg16 → Nat
  | .bc => 0 | .de => 1 | .hl => 2 | .sp => 3

/-- Rule R226. -/
def StackPair.code : StackPair → Nat
  | .bc => 0 | .de => 1 | .hl => 2 | .af => 3

/-- Rule R227. -/
def Cond.code : Cond → Nat
  | .nz => 0 | .z => 1 | .nc => 2 | .c => 3

/-- Rule R228. -/
def AluOp.code : AluOp → Nat
  | .add => 0 | .adc => 1 | .sub => 2 | .sbc => 3 | .and => 4 | .xor => 5 | .or => 6 | .cp => 7

/-- Rule R229. -/
def ShiftOp.code : ShiftOp → Nat
  | .rlc => 0 | .rrc => 1 | .rl => 2 | .rr => 3 | .sla => 4 | .sra => 5 | .swap => 6 | .srl => 7

/-- A byte of an encoding. -/
def byte (n : Nat) : Byte := BitVec.ofNat 8 n

/-! ## Instructions by their operand, a register or the byte at HL (R224, R310, R354) -/

def Instr.aluOn (o : AluOp) : Option Reg8 → Instr
  | some r => .aluReg o r
  | none => .aluMem o

def Instr.incOn : Option Reg8 → Instr
  | some r => .incReg r
  | none => .incMhl

def Instr.decOn : Option Reg8 → Instr
  | some r => .decReg r
  | none => .decMhl

def Instr.shiftOn (o : ShiftOp) : Option Reg8 → Instr
  | some r => .shiftReg o r
  | none => .shiftMem o

def Instr.bitOn (b : Field3) : Option Reg8 → Instr
  | some r => .bitReg b r
  | none => .bitMem b

def Instr.resOn (b : Field3) : Option Reg8 → Instr
  | some r => .resReg b r
  | none => .resMem b

def Instr.setOn (b : Field3) : Option Reg8 → Instr
  | some r => .setReg b r
  | none => .setMem b

end Sys2Proof

namespace Sys2Proof.Machine

/-! ## Legal states -/

/-- Rules R53, R461: the reload count is 0..4 and the detector holds its last input. -/
def Timer.legal (t : Timer) : Bool := decide (t.reload ≤ 4) && t.inPrev == t.input

/-- Rule R48. -/
def Serial.legal (s : Serial) : Bool := decide (s.bits < 8) && decide (s.clock < 512)

/-- Rule R55. -/
def Dma.legal (d : Dma) : Bool :=
  decide (d.sub < 4) && decide (d.index ≤ 160) && (!d.active || decide (d.index < 160)) &&
    loByte d.source == 0

/-- Rules R64, R531, R541, R558: the PPU's ranges, its mode as the phase says while the LCD is on, the
blanked state while it is off, and the fixed size of the framebuffer. -/
def Ppu.legal (p : Ppu) : Bool :=
  decide (p.ly < 154) && decide (p.dot < 456) && decide (172 ≤ p.mode3Len) &&
    decide (p.mode3Len ≤ 375) && p.lcdOn == p.lcdc.getLsbD 7 &&
    (if p.lcdOn then p.mode == modeOf p.ly p.dot p.mode3Len
      else p.ly == 0 && p.dot == 0 && p.mode == .hblank && !p.statLine) &&
    p.framebuffer.length == 144 && p.framebuffer.all (fun row => row.length == 160)

/-- Rules R90, R611: a pulse channel's ranges; a channel is on only with its DAC on. -/
def Pulse.legal (c : Pulse) : Bool :=
  decide (c.length ≤ 64) && decide (c.dutyPos < 8) && decide (c.volume ≤ 15) &&
    decide (c.envTimer ≤ 7) && (!c.on || c.dac)

/-- Rules R90, R611: the wave channel's ranges. -/
def Wave.legal (c : Wave) : Bool :=
  decide (c.length ≤ 256) && decide (c.pos < 32) && (!c.on || c.dacOn)

/-- Rules R90, R611: the noise channel's ranges. -/
def Noise.legal (c : Noise) : Bool :=
  decide (c.length ≤ 64) && decide (c.volume ≤ 15) && decide (c.envTimer ≤ 7) && (!c.on || c.dac)

/-- Rules R8, R90, R602: the APU's ranges; while it is off every channel is off. -/
def Apu.legal (a : Apu) : Bool :=
  a.ch1.legal && a.ch2.legal && a.ch3.legal && a.ch4.legal && decide (a.sweep.timer ≤ 8) &&
    decide (a.fsCounter < 8192) && decide (a.fsStep < 8) &&
    decide (a.sampleRate ≤ Config.clockFrequency) && decide (a.sampleAcc < Config.clockFrequency) &&
    (a.power || !(a.ch1.on || a.ch2.on || a.ch3.on || a.ch4.on))

/-- Rules R178, R181, R186, R190, R194: bank registers that are never 0, and the RTC's divider. -/
def Mapper.legal : Mapper → Bool
  | .none => true
  | .mbc1 m => m.bank1 != 0
  | .mbc2 m => m.romBank != 0
  | .mbc3 m => m.romBank != 0 && decide (m.sub < Config.clockFrequency)
  | .mbc5 _ => true

/-- Rules R402, R403, R429: the CPU is never in two of the states halted, stopped and HALT-bug armed. -/
def Cpu.legal (c : Cpu) : Bool :=
  !(c.halted && c.haltBug) && !(c.halted && c.stopped) && !(c.haltBug && c.stopped)

/-- A legal state: every field in its range and every memory in canonical form. -/
def State.legal (s : State) : Bool :=
  s.cpu.legal && s.timer.legal && s.serial.legal && s.dma.legal && s.ppu.legal && s.apu.legal &&
    s.cart.mapper.legal && s.mem.wf

/-! ## Frames -/

/-- Every 8-bit register but those listed keeps its value. -/
def RegsKept (dst : List Reg8) (s t : State) : Prop := ∀ r, r ∉ dst → t.reg8 r = s.reg8 r

/-- The CPU's hidden control state but the HALT bug, which every fetch uses up (R221). -/
def ControlKept (s t : State) : Prop :=
  t.cpu.ime = s.cpu.ime ∧ t.cpu.imeDelay = s.cpu.imeDelay ∧ t.cpu.halted = s.cpu.halted ∧
    t.cpu.stopped = s.cpu.stopped

/-- Everything outside the CPU is as in `u`: every device, every memory, the mode, the toggles, the
cycle counter; and a CPU read of any byte gives what it gives in `u`. -/
def OutsideIs (u t : State) : Prop :=
  t = { u with cpu := t.cpu, stepCost := t.stepCost } ∧ ∀ a, t.busRead a = u.busRead a

/-- Rules R33, R221, R402: PC has passed an instruction of `len` bytes, one less under the HALT bug. -/
def Passes (len : Nat) (s t : State) : Prop :=
  t.cpu.pc = s.cpu.pc + BitVec.ofNat 16 (if s.cpu.haltBug then len - 1 else len)

/-- Rules R221, R690: the fetch used the HALT bug up, and the step's cost grew by `cost`. -/
def Spends (cost : Nat) (s t : State) : Prop :=
  t.stepCost = s.stepCost + cost ∧ t.cpu.haltBug = false

/-- Rule R32: SP is as it was. -/
def SpKept (s t : State) : Prop := t.cpu.sp = s.cpu.sp

/-- Rule R34: every flag is as it was. -/
def FlagsKept (s t : State) : Prop := t.cpu.flags = s.cpu.flags

/-- An instruction of `len` bytes and `cost` master cycles ran on to the next one: of the 8-bit
registers only those of `dst` may have changed, and the world outside the CPU is as in `u`. -/
def Leaves (len cost : Nat) (dst : List Reg8) (s u t : State) : Prop :=
  Passes len s t ∧ Spends cost s t ∧ RegsKept dst s t ∧ ControlKept s t ∧ OutsideIs u t

/-- As `Leaves`, for an instruction that sends PC to `pc`. -/
def JumpsTo (pc : Word) (cost : Nat) (s u t : State) : Prop :=
  t.cpu.pc = pc ∧ Spends cost s t ∧ RegsKept [] s t ∧ FlagsKept s t ∧ OutsideIs u t

/-- Two addresses reach the same storage (echo RAM R153, MBC2's mirrors R188, small RAM R173). -/
def State.sameCell (s : State) (a b : Word) : Bool :=
  match s.target a, s.target b with
  | .cartRam x, .cartRam y => s.cart.ramTarget x == s.cart.ramTarget y
  | x, y => x == y

/-- The address reaches plain storage: VRAM, WRAM, OAM, HRAM, IE, or a cartridge RAM byte. -/
def State.plainAt (s : State) (a : Word) : Bool :=
  match s.target a with
  | .vram _ | .wram _ | .oam _ | .hram _ | .ie => true
  | .cartRam x =>
    match s.cart.ramTarget x with
    | .byte _ | .nibble _ => true
    | .closed | .clock _ => false
  | .rom _ | .unusable | .io _ => false

/-- A CPU write to this address is stored and read back: plain storage that no gate of R148, R154 or
R515 closes. A nibble of MBC2 RAM (R188) reads back with its high half set. -/
def State.openAt (s : State) (a : Word) : Bool :=
  s.plainAt a && !s.busTaken a &&
    match s.target a with
    | .vram _ => !s.vramBlocked
    | .oam _ => !s.oamBlocked
    | _ => true

/-- What stored value a read of the same place gives (R188: a nibble of MBC2 RAM, else the byte). -/
def State.readBack (s : State) (a : Word) (v : Byte) : Byte :=
  match s.target a with
  | .cartRam x =>
    match s.cart.ramTarget x with
    | .nibble _ => 0xF0 ||| v
    | _ => v
  | _ => v

/-- Rules R11, R145: a CPU read of `a` in `s` gives `v` and leaves `s'`: a value and nothing changed,
or a drawn value and the draw counter moved on (log 1). -/
def ReadsAs (s : State) (a : Word) (v : Byte) (s' : State) : Prop :=
  (s.busRead a = .value v ∧ s' = s) ∨
    (s.busRead a = .drawn ∧ v = Config.freeByte s.draws ∧ s' = { s with draws := s.draws + 1 })

/-- Rules R11, R140: two bytes read at `addr` and the address after it, low byte first. -/
def ReadsWord (s : State) (addr v : Word) (u : State) : Prop :=
  ∃ m, ReadsAs s addr (loByte v) m ∧ ReadsAs m (addr + 1) (hiByte v) u

/-- Rules R11, R294: `push16(v)` leaves the world outside the CPU as in `u`: the high byte stored at
SP - 1, then the low byte at SP - 2, neither refused. -/
def Pushes (s : State) (v : Word) (u : State) : Prop :=
  s.writeRefusal (s.cpu.sp - 1) (hiByte v) = none ∧
    (s.storeByte (s.cpu.sp - 1) (hiByte v)).writeRefusal (s.cpu.sp - 2) (loByte v) = none ∧
    u = (s.storeByte (s.cpu.sp - 1) (hiByte v)).storeByte (s.cpu.sp - 2) (loByte v)

/-- Rules R11, R515: `push16(v)` is refused for the reason `q`, at its first or at its second write. -/
def PushRefused (s : State) (v : Word) (q : Refusal) : Prop :=
  s.writeRefusal (s.cpu.sp - 1) (hiByte v) = some q ∨
    s.writeRefusal (s.cpu.sp - 1) (hiByte v) = none ∧
      (s.storeByte (s.cpu.sp - 1) (hiByte v)).writeRefusal (s.cpu.sp - 2) (loByte v) = some q

/-- Rules R33, R221, R402: the bytes an instruction at PC is fetched from, from its `k`-th byte on,
read with the CPU's own reads; under the HALT bug the second byte is the opcode byte again. -/
def FetchedFrom : Nat → State → List Byte → State → Prop
  | _, s, [], u => u = s
  | k, s, b :: bs, u =>
    ∃ m, ReadsAs s (s.cpu.pc + BitVec.ofNat 16 (if s.cpu.haltBug then k - 1 else k)) b m ∧
      FetchedFrom (k + 1) m bs u

/-- Rules R310, R320, R354: where an 8-bit operand comes from, the state after it is read, and how
many bytes and master cycles the forms of one instruction take. -/
inductive Operand (s : State) : Option Reg8 → Byte → State → Prop
  | reg (r : Reg8) : Operand s (some r) (s.reg8 r) s
  | mem (v : Byte) (u : State) (h : ReadsAs s s.hl v u) : Operand s none v u

/-- Rule R224: an operand's code, 6 for `(HL)`. -/
def operandCode : Option Reg8 → Nat
  | some r => r.code
  | none => 6

/-- Rules R11, R354: a result put back where the operand came from: the register, or the byte at HL. -/
def PutsBack (s u : State) (dst : Option Reg8) (v : Byte) (w : State) : Prop :=
  match dst with
  | some _ => w = u
  | none => u.writeRefusal s.hl v = none ∧ w = u.storeByte s.hl v

/-- The registers a result put back may change. -/
def putBackRegs : Option Reg8 → List Reg8
  | some r => [r]
  | none => []

/-- The result is in the register it was put back to. -/
def HoldsBack (t : State) (dst : Option Reg8) (v : Byte) : Prop :=
  match dst with
  | some r => t.reg8 r = v
  | none => True

/-- Rule R354: the master cycles of a form. -/
def formCost (onReg onMem : Nat) : Option Reg8 → Nat
  | some _ => onReg
  | none => onMem

/-- A load of the byte at an address into a register (R261, R265, R266, R269, R271, R273): its bytes,
what it leaves, and that a refused read refuses it. -/
def Loads (i : Instr) (enc : List Byte) (r : Reg8) (addr : State → Word) (cost : Nat) : Prop :=
  encode i = enc ∧ ∀ s : State,
    (∀ v u, ReadsAs s (addr s) v u → ∃ t, exec i s = .next t ∧ t.reg8 r = v ∧ SpKept s t ∧
      FlagsKept s t ∧ Leaves enc.length cost [r] s u t) ∧
    ∀ q, s.busRead (addr s) = .refused q → exec i s = .refused q

/-- A store of one byte at an address (R262, R264, R267, R268, R270, R272, R274): its bytes, what it
leaves, and that a refused write refuses it. -/
def Stores (i : Instr) (enc : List Byte) (addr : State → Word) (val : State → Byte) (cost : Nat) : Prop :=
  encode i = enc ∧ ∀ s : State,
    (s.writeRefusal (addr s) (val s) = none → ∃ t, exec i s = .next t ∧ SpKept s t ∧
      FlagsKept s t ∧ Leaves enc.length cost [] s (s.storeByte (addr s) (val s)) t) ∧
    ∀ q, s.writeRefusal (addr s) (val s) = some q → exec i s = .refused q

/-- An operation on A (R310): for the register, `(HL)` and immediate forms its bytes, A and the flags
after it as functions of A, the operand and the carry before it, and what it leaves. -/
def AluMeans (o : AluOp) (result : Nat → Nat → Nat → Nat) (flags : Nat → Nat → Nat → Flags) : Prop :=
  (∀ (s : State) (src : Option Reg8) (v : Byte) (u : State), Operand s src v u →
    encode (.aluOn o src) = [byte (0x80 + 8 * o.code + operandCode src)] ∧
    ∃ t, exec (.aluOn o src) s = .next t ∧
      (t.reg8 .a).toNat = result (s.reg8 .a).toNat v.toNat s.cpu.flags.c.toNat ∧
      t.cpu.flags = flags (s.reg8 .a).toNat v.toNat s.cpu.flags.c.toNat ∧ SpKept s t ∧
      Leaves 1 (formCost 4 8 src) [.a] s u t) ∧
  ∀ (s : State) (n : Byte), encode (.aluImm o n) = [byte (0xC6 + 8 * o.code), n] ∧
    ∃ t, exec (.aluImm o n) s = .next t ∧
      (t.reg8 .a).toNat = result (s.reg8 .a).toNat n.toNat s.cpu.flags.c.toNat ∧
      t.cpu.flags = flags (s.reg8 .a).toNat n.toNat s.cpu.flags.c.toNat ∧ SpKept s t ∧
      Leaves 2 8 [.a] s s t

/-- The addresses an instruction stores to in `s`, in order; every other instruction stores nothing. -/
def storedAt (s : State) : Instr → List Word
  | .ldMbcA => [s.reg16 .bc]
  | .ldMdeA => [s.reg16 .de]
  | .ldMhliA | .ldMhldA | .ldMhlN _ | .incMhl | .decMhl
  | .ldMhlB | .ldMhlC | .ldMhlD | .ldMhlE | .ldMhlH | .ldMhlL | .ldMhlA
  | .rlcMhl | .rrcMhl | .rlMhl | .rrMhl | .slaMhl | .sraMhl | .swapMhl | .srlMhl
  | .res0Mhl | .res1Mhl | .res2Mhl | .res3Mhl | .res4Mhl | .res5Mhl | .res6Mhl | .res7Mhl
  | .set0Mhl | .set1Mhl | .set2Mhl | .set3Mhl | .set4Mhl | .set5Mhl | .set6Mhl | .set7Mhl => [s.hl]
  | .ldMnnA nn => [nn]
  | .ldMnnSp nn => [nn, nn + 1]
  | .ldhMnA n => [highPage n]
  | .ldhMcA => [highPage (s.reg8 .c)]
  | .pushBc | .pushDe | .pushHl | .pushAf | .callNn _
  | .rst00 | .rst08 | .rst10 | .rst18 | .rst20 | .rst28 | .rst30 | .rst38 =>
    [s.cpu.sp - 1, s.cpu.sp - 2]
  | .callNzNn _ => if s.cpu.flags.z then [] else [s.cpu.sp - 1, s.cpu.sp - 2]
  | .callZNn _ => if s.cpu.flags.z then [s.cpu.sp - 1, s.cpu.sp - 2] else []
  | .callNcNn _ => if s.cpu.flags.c then [] else [s.cpu.sp - 1, s.cpu.sp - 2]
  | .callCNn _ => if s.cpu.flags.c then [s.cpu.sp - 1, s.cpu.sp - 2] else []
  | _ => []

/-- Rule R93: the CGB-only registers outside the model's scope: KEY1, VBK, the HDMA registers, RP, the
CGB palettes, OPRI, PCM12 and PCM34. -/
def cgbOnlyAddresses : List Word :=
  [0xFF4D, 0xFF4F, 0xFF51, 0xFF52, 0xFF53, 0xFF54, 0xFF55, 0xFF56, 0xFF68, 0xFF69, 0xFF6A, 0xFF6B,
    0xFF6C, 0xFF76, 0xFF77]

/-- Rules R47, R93, R515, R645: the refusals the spec gives, with the state they need; 0xFF02 is SC,
whose refused write the model names so (log 7). -/
def RefusalAllowed (s : State) : Refusal → Prop
  | .dmaBusConflict a => s.dma.active = true ∧ a.toNat < 0xFF00
  | .cgbRegister a => s.model = .cgb ∧ (a ∈ cgbOnlyAddresses ∨ a = 0xFF02)
  | .waveRamWhilePlaying a => s.apu.ch3.on = true ∧ 0xFF30 ≤ a.toNat ∧ a.toNat ≤ 0xFF3F
  | _ => False

/-- Rules R47, R93, R515, R645: the refusal of a CPU write of `v` at `a`, if there is one. -/
def refusedWrite (s : State) (a : Word) (v : Byte) : Option Refusal :=
  if s.dma.active = true ∧ a.toNat < 0xFF00 then some (.dmaBusConflict a)
  else if s.model = .cgb ∧ (a ∈ cgbOnlyAddresses ∨ a = 0xFF02 ∧ v.getLsbD 1 = true) then
    some (.cgbRegister a)
  else if s.apu.ch3.on = true ∧ 0xFF30 ≤ a.toNat ∧ a.toNat ≤ 0xFF3F then some (.waveRamWhilePlaying a)
  else none

/-! ## Line composition -/

/-- Rule R547: bit `7 - col` of the two planes of a tile's row, as the colour index; `tile` is the
tile's offset in VRAM. -/
def indexOfPlanes (vram : Store) (tile row col : Nat) : Nat :=
  let plane (k : Nat) : Nat := (Store.read vram (tile + 2 * row + k)).toNat / 2 ^ (7 - col) % 2
  2 * plane 1 + plane 0

/-- Rules R548, R553: the colour index of pixel (px, py) of the tile map at VRAM offset 0x1C00 or
0x1800; with LCDC bit 4 clear tiles 0 to 127 follow tile 255. -/
def mapIndex (lcdc : Byte) (vram : Store) (high : Bool) (px py : Nat) : Nat :=
  let t := (Store.read vram ((if high then 0x1C00 else 0x1800) + 32 * (py / 8) + px / 8)).toNat
  let t := if lcdc.getLsbD 4 = false ∧ t < 128 then t + 256 else t
  indexOfPlanes vram (16 * t) (py % 8) (px % 8)

/-- Rules R548, R549, R553: the background or window colour index at (x, y). -/
def backgroundIndex (p : Ppu) (vram : Store) (x y : Nat) : Nat :=
  if p.lcdc.getLsbD 0 = false then 0
  else if p.lcdc.getLsbD 5 = true ∧ p.windowYHit = true ∧ p.wx.toNat ≤ x + 7 then
    mapIndex p.lcdc vram (p.lcdc.getLsbD 6) (x + 7 - p.wx.toNat) p.windowLine.toNat
  else mapIndex p.lcdc vram (p.lcdc.getLsbD 3) ((p.scx.toNat + x) % 256) ((p.scy.toNat + y) % 256)

/-- Rules R545-R556: the colour of pixel (x, y), for the sprite `obj` that is drawn there, if any, and
its colour index. -/
def pixelColor (p : Ppu) (vram : Store) (obj : Option (Sprite × Nat)) (x y : Nat) : Rgb :=
  let back := backgroundIndex p vram x y
  let level (pal : Byte) (index : Nat) : Nat := pal.toNat / 2 ^ (2 * index) % 4
  let behind := if p.lcdc.getLsbD 0 then level p.bgp back else 0
  let shade := match obj with
    | none => behind
    | some (s, index) =>
      if s.attr.getLsbD 7 = true ∧ back ≠ 0 then behind
      else level (if s.attr.getLsbD 4 then p.obp1 else p.obp0) index
  if shade = 0 then p.palette.c0 else if shade = 1 then p.palette.c1
  else if shade = 2 then p.palette.c2 else p.palette.c3

/-- Rules R545, R557: row `y` as it is composed; `p` is the PPU at the render tick. -/
def composedRow (model : ConsoleMode) (draws : Nat) (vram oam : Store) (p : Ppu) (y : Nat) : List Rgb :=
  match model with
  | .cgb => drawnRow draws
  | .dmg | .sgb => (List.range 160).map fun x =>
      let obj := p.spritePixel vram (p.selectSprites oam y) x y
      pixelColor p vram (obj.map fun s => (s, p.spriteIndex vram s x y)) x y

/-! ## The APU in numbers -/

/-- Rule R605: a length and its channel's flag, where a length clock comes or not. -/
def lengthAfter (clocked en on : Bool) (length : Nat) : Nat × Bool :=
  if clocked = true ∧ en = true ∧ 0 < length then (length - 1, on && decide (length ≠ 1)) else (length, on)

/-- Rule R620: a volume and its envelope timer under the register `reg`. -/
def envelopeAfter (clocked : Bool) (reg : Byte) (volume timer : Nat) : Nat × Nat :=
  if clocked = false ∨ reg.toNat % 8 = 0 then (volume, timer)
  else if 1 < timer then (volume, timer - 1)
  else (if reg.toNat / 8 % 2 = 0 then volume - 1 else if volume < 15 then volume + 1 else volume,
    reg.toNat % 8)

/-- Rules R613, R614: the sweep unit, and channel 1's period and flag. -/
def sweepAfter (clocked : Bool) (w : Sweep) (period : BitVec 11) (on : Bool) : Sweep × BitVec 11 × Bool :=
  let pace := w.nr10.toNat / 16
  let shift := w.nr10.toNat % 8
  let down := decide (w.nr10.toNat / 8 % 2 = 1)
  let moved (x : Nat) : Nat := if down then x - x / 2 ^ shift else x + x / 2 ^ shift
  if clocked = false then (w, period, on)
  else if 1 < w.timer then ({ w with timer := w.timer - 1 }, period, on)
  else
    let w := { w with timer := if pace = 0 then 8 else pace }
    if w.enabled = false ∨ pace = 0 then (w, period, on)
    else
      let next := moved w.shadow.toNat
      let w := { w with negated := w.negated || down }
      if next ≤ 2047 ∧ shift ≠ 0 then
        ({ w with shadow := BitVec.ofNat 11 next }, BitVec.ofNat 11 next, on && decide (moved next ≤ 2047))
      else (w, period, on && decide (next ≤ 2047))

/-- Rule R622: a pulse channel's timer and waveform position. -/
def pulseAfter (c : Pulse) : Pulse :=
  { c with
    freqTimer := if 1 < c.freqTimer then c.freqTimer - 1 else (2048 - c.period.toNat) * 4
    dutyPos := if 1 < c.freqTimer then c.dutyPos else (c.dutyPos + 1) % 8 }

/-- Rule R640: the wave channel's timer, position and sample. -/
def waveAfter (ram : Store) (c : Wave) : Wave :=
  if 1 < c.freqTimer then { c with freqTimer := c.freqTimer - 1 }
  else
    let pos := (c.pos + 1) % 32
    let b := (Store.read ram (pos / 2)).toNat
    { c with
      freqTimer := (2048 - c.period.toNat) * 2
      pos := pos
      sample := BitVec.ofNat 4 (if pos % 2 = 0 then b / 16 else b % 16) }

/-- Rule R650: `noise_period` in numbers. -/
def noiseReload (control : Byte) : Nat :=
  (if control.toNat % 8 = 0 then 8 else 16 * (control.toNat % 8)) * 2 ^ (control.toNat / 16)

/-- Rule R650: the noise channel's timer and shift register. -/
def noiseAfter (c : Noise) : Noise :=
  if 1 < c.freqTimer then { c with freqTimer := c.freqTimer - 1 }
  else
    let l := c.lfsr.toNat
    let b := (l + l / 2) % 2
    let moved := l / 2 + 16384 * b
    { c with
      freqTimer := noiseReload c.control
      lfsr := BitVec.ofNat 15 (
        if 14 ≤ c.control.toNat / 16 then l
        else if c.control.toNat / 8 % 2 = 1 then moved - 64 * (moved / 64 % 2) + 64 * b
        else moved) }

/-- Rules R600, R603: one master cycle of the APU before its output: every 8192 cycles a step of the frame
sequencer (lengths on the even steps, sweep on 2 and 6, envelopes on 7), then the channel timers. -/
def apuAfter (ram : Store) (a : Apu) : Apu :=
  if a.power = false then a
  else
    let wraps := decide (a.fsCounter + 1 = 8192)
    let lengths := wraps && decide (a.fsStep % 2 = 0)
    let sweeps := wraps && decide (a.fsStep = 2 ∨ a.fsStep = 6)
    let envelopes := wraps && decide (a.fsStep = 7)
    let l1 := lengthAfter lengths a.ch1.lenEn a.ch1.on a.ch1.length
    let l2 := lengthAfter lengths a.ch2.lenEn a.ch2.on a.ch2.length
    let l3 := lengthAfter lengths a.ch3.lenEn a.ch3.on a.ch3.length
    let l4 := lengthAfter lengths a.ch4.lenEn a.ch4.on a.ch4.length
    let w := sweepAfter sweeps a.sweep a.ch1.period l1.2
    let e1 := envelopeAfter envelopes a.ch1.envelope a.ch1.volume a.ch1.envTimer
    let e2 := envelopeAfter envelopes a.ch2.envelope a.ch2.volume a.ch2.envTimer
    let e4 := envelopeAfter envelopes a.ch4.envelope a.ch4.volume a.ch4.envTimer
    { a with
      fsCounter := if wraps then 0 else a.fsCounter + 1
      fsStep := if wraps then (a.fsStep + 1) % 8 else a.fsStep
      sweep := w.1
      ch1 := pulseAfter { a.ch1 with
        length := l1.1, period := w.2.1, on := w.2.2, volume := e1.1, envTimer := e1.2 }
      ch2 := pulseAfter { a.ch2 with length := l2.1, on := l2.2, volume := e2.1, envTimer := e2.2 }
      ch3 := waveAfter ram { a.ch3 with length := l3.1, on := l3.2 }
      ch4 := noiseAfter { a.ch4 with length := l4.1, on := l4.2, volume := e4.1, envTimer := e4.2 } }

/-- Rules R621, R623: a pulse channel's amplitude; the duty waveforms are read from the high bit down. -/
def pulseLevel (c : Pulse) : Nat :=
  let wave := if c.duty = 0 then 0x01 else if c.duty = 1 then 0x81 else if c.duty = 2 then 0x87 else 0x7E
  if c.on = true ∧ c.envelope.toNat / 8 ≠ 0 ∧ wave / 2 ^ (7 - c.dutyPos) % 2 = 1 then c.volume else 0

/-- Rule R641: the wave channel's amplitude. -/
def waveLevel (c : Wave) : Nat :=
  if c.on = true ∧ c.dacOn = true ∧ c.level ≠ 0 then c.sample.toNat / 2 ^ (c.level.toNat - 1) else 0

/-- Rule R651: the noise channel's amplitude. -/
def noiseLevel (c : Noise) : Nat :=
  if c.on = true ∧ c.envelope.toNat / 8 ≠ 0 ∧ c.lfsr.toNat % 2 = 0 then c.volume else 0

/-- Rule R660: one side of the mixer, from its four NR51 bits and its volume. -/
def sideLevel (a : Apu) (panning volume : Nat) : Nat :=
  if a.power then
    (panning % 2 * pulseLevel a.ch1 + panning / 2 % 2 * pulseLevel a.ch2 +
      panning / 4 % 2 * waveLevel a.ch3 + panning / 8 % 2 * noiseLevel a.ch4) * (volume + 1)
  else 0

/-! ## The serial unit in numbers -/

/-- Rule R492: SB after `k` shifts: the top bit out, the peer's answer to it in, 1 with no peer. -/
def shiftedIn : Nat → List PeerBit → Nat → Nat
  | 0, _, sb => sb
  | k + 1, peer, sb =>
    let answer := match peer with
      | [] => true
      | p :: _ => if sb / 128 % 2 = 1 then p.ifHigh else p.ifLow
    shiftedIn k peer.tail (sb * 2 % 256 + answer.toNat)

/-- The device phase's part of a run of `n` master cycles for one device. -/
def repeatTick {α : Type} (f : α → α) : Nat → α → α
  | 0, x => x
  | n + 1, x => repeatTick f n (f x)

/-- Rules R355-R362 as integers: the result and the carry of a rotate or shift of `o` under carry `c`. -/
def shiftMeaning (op : ShiftOp) (o c : Nat) : Nat × Nat :=
  match op with
  | .rlc => (2 * o % 256 + o / 128, o / 128)
  | .rrc => (o / 2 + 128 * (o % 2), o % 2)
  | .rl => (2 * o % 256 + c, o / 128)
  | .rr => (o / 2 + 128 * c, o % 2)
  | .sla => (2 * o % 256, o / 128)
  | .sra => (o / 2 + 128 * (o / 128), o % 2)
  | .swap => (16 * (o % 16) + o / 16, 0)
  | .srl => (o / 2, o % 2)

/-- Rule R52: the master cycles between two TIMA increments. -/
def timerPeriod (tac : BitVec 3) : Nat :=
  match tac.toNat % 4 with
  | 0 => 1024
  | 1 => 16
  | 2 => 64
  | _ => 256

end Sys2Proof.Machine
end

