-- ==== Sys2Proof/Certificates/Slice0/Obligations.lean ====
section
/-! DEFINITION. The statements for the provers, in five groups: encoding, the step, the instructions,
memory and its gates, the devices and the host's operations. -/

open Sys2Proof Sys2Proof.Machine

/-! ## Encoding -/

/-- Rules R220, R223, R230, R231, R234: no bit of an encoding is dropped: the decoder reads every
well-formed instruction back from its bytes, whatever follows them. -/
def Obligations.DecodeOfEncode : Prop :=
  ∀ (i : Instr) (rest : List Byte), i.wellFormed = true → decode (encode i ++ rest) = .ok (i, rest)

/-- Rules R220, R223, R230-R234: each byte sequence has one meaning: what the decoder reads is well
formed and encodes to the bytes it was read from. -/
def Obligations.EncodeOfDecode : Prop :=
  ∀ (bs rest : List Byte) (i : Instr), decode bs = .ok (i, rest) →
    bs = encode i ++ rest ∧ i.wellFormed = true

/-- Rule R220: the first byte alone tells the length; with that many bytes there the decoder answers,
with fewer it names the byte whose operands are missing. -/
def Obligations.LengthFromFirstByte : Prop :=
  ∀ op : Byte, ∃ n, 1 ≤ n ∧ n ≤ 3 ∧ ∀ bs : List Byte,
    (n ≤ bs.length + 1 → ∃ i, decode (op :: bs) = .ok (i, bs.drop (n - 1)) ∧ i.length = n) ∧
    (bs.length + 1 < n → decode (op :: bs) = .error (.missingOperand op))

/-- Rules R230, R231: words written out from the opcode maps decode to the instructions they stand
for. -/
def Obligations.SampleWords : Prop :=
  decode [0x00] = .ok (.nop, []) ∧
  decode [0x3E, 0x80] = .ok (.ldAN 0x80, []) ∧
  decode [0x01, 0x34, 0x12] = .ok (.ldBcNn 0x1234, []) ∧
  decode [0x18, 0xFE] = .ok (.jrE (-2), []) ∧
  decode [0x76] = .ok (.halt, []) ∧
  decode [0xAE] = .ok (.xorMhl, []) ∧
  decode [0xCB, 0x7C] = .ok (.bit7H, []) ∧
  decode [0xE8, 0x80] = .ok (.addSpE (-128), []) ∧
  decode [0xEA, 0x00, 0x20] = .ok (.ldMnnA 0x2000, []) ∧
  decode [0xF1] = .ok (.popAf, [])

/-! ## The step -/

/-- Rules R221, R405, R690: an awake CPU with no dispatch due runs the instruction whose bytes it
fetches at PC: the step is `exec` of it, the promotion of an EI delay that was set before it, then the
device phase of its cost and the end phase; its fault or refusal is the step's. -/
def Obligations.StepRunsDecoded : Prop :=
  ∀ (s u : State) (i : Instr), i.wellFormed = true → s.fault = none → s.cpu.stopped = false →
    s.cpu.halted = false → (s.cpu.ime = false ∨ s.ints.pending = 0) → FetchedFrom 0 s (encode i) u →
    (∀ t, exec i { u with stepCost := 0 } = .next t →
      step s = .next (endPhase false (devicePhase false t.stepCost
        (if s.cpu.imeDelay && t.cpu.imeDelay then
          { t with cpu := { t.cpu with ime := true, imeDelay := false } } else t)))) ∧
    (∀ f, exec i { u with stepCost := 0 } = .fault f → step s = .fault f) ∧
    (∀ q, exec i { u with stepCost := 0 } = .refused q → step s = .refused q)

/-- Rules R403, R429, R690. A halted CPU with an interrupt pending and IME clear wakes for 4 master
cycles and runs the instruction at PC in the same step. With none pending the step is idle and leaves
the CPU as it is. A stopped step moves no device but the cartridge clock and ends STOP when an input
line reads 0. -/
def Obligations.HaltedAndStoppedSteps : Prop :=
  (∀ (s u : State) (i : Instr), i.wellFormed = true → s.fault = none → s.cpu.stopped = false →
    s.cpu.halted = true → s.ints.pending ≠ 0 → s.cpu.ime = false → FetchedFrom 0 s (encode i) u →
    ∀ t, exec i { u with cpu := { u.cpu with halted := false }, stepCost := 4 } = .next t →
      step s = .next (endPhase false (devicePhase false t.stepCost
        (if s.cpu.imeDelay && t.cpu.imeDelay then
          { t with cpu := { t.cpu with ime := true, imeDelay := false } } else t)))) ∧
  (∀ s : State, s.fault = none → s.cpu.stopped = false → s.cpu.halted = true → s.ints.pending = 0 →
    ∃ t, step s = .next t ∧ t.cpu = s.cpu ∧ t.stepCost = 4 ∧ t.cycles = s.cycles + 4) ∧
  ∀ s : State, s.fault = none → s.cpu.stopped = true →
    ∃ t, step s = .next t ∧ t.stepCost = 4 ∧ t.cycles = s.cycles + 4 ∧
      t.cpu = { s.cpu with stopped := s.joypad.lines (s.cycles + 4) == 0xF } ∧
      t.timer = s.timer ∧ t.dma = s.dma ∧ t.serial = s.serial ∧ t.apu = s.apu ∧ t.ppu = s.ppu ∧
      t.mem = s.mem

/-- Rules R423-R426, R429: with IME set and an interrupt pending the step is a dispatch of the lowest
pending bit: the return address pushed (one less under the HALT bug), IME, the EI delay, the HALT bug
and the request bit cleared, PC at 0x40 + 8 i, 20 master cycles, 4 more when it woke the CPU. -/
def Obligations.InterruptDispatch : Prop :=
  ∀ (s u : State) (i : Nat), s.fault = none → s.cpu.stopped = false → s.cpu.ime = true →
    s.ints.pending.getLsbD i = true → (∀ j, j < i → s.ints.pending.getLsbD j = false) →
    (∀ q, PushRefused s (if s.cpu.haltBug then s.cpu.pc - 1 else s.cpu.pc) q → step s = .refused q) ∧
    (Pushes s (if s.cpu.haltBug then s.cpu.pc - 1 else s.cpu.pc) u →
    ∃ t, step s = .next (endPhase false (devicePhase false t.stepCost t)) ∧
      t.stepCost = (if s.cpu.halted then 24 else 20) ∧ t.cpu.pc.toNat = 0x40 + 8 * i ∧
      t.cpu.sp = s.cpu.sp - 2 ∧ t.cpu.ime = false ∧ t.cpu.imeDelay = false ∧
      t.cpu.haltBug = false ∧ t.cpu.halted = false ∧ t.cpu.stopped = false ∧
      RegsKept [] s t ∧ FlagsKept s t ∧
      (∀ j, t.ints.iflag.getLsbD j = (u.ints.iflag.getLsbD j && decide (j ≠ i))) ∧
      t = { u with cpu := t.cpu, stepCost := t.stepCost
                   ints := { u.ints with iflag := t.ints.iflag } })

/-- Rules R232, R407: each of the eleven bytes that encode no instruction raises
`InvalidOpcode(op, addr)`: the step that fetches it returns the fault, and the machine it leaves
differs from the old one in `fault` alone. -/
def Obligations.IllegalOpcodeFaults : Prop :=
  (∀ op : Byte, op ∈ ([0xD3, 0xDB, 0xDD, 0xE3, 0xE4, 0xEB, 0xEC, 0xED, 0xF4, 0xFC, 0xFD] : List Byte) ↔
    ∃ o : IllegalOp, decode [op] = .ok (.illegal o, [])) ∧
  (∀ (o : IllegalOp) (s : State), encode (.illegal o) = [o.code] ∧
    exec (.illegal o) s = .fault (.invalidOpcode o.code s.cpu.pc)) ∧
  ∀ (s u : State) (o : IllegalOp), s.fault = none → s.cpu.stopped = false →
    (if s.cpu.halted then s.ints.pending ≠ 0 ∧ s.cpu.ime = false
      else s.cpu.ime = false ∨ s.ints.pending = 0) →
    ReadsAs s s.cpu.pc o.code u →
    step s = .fault (.invalidOpcode o.code s.cpu.pc) ∧
      clock s = ({ s with fault := some (.invalidOpcode o.code s.cpu.pc) }, 0,
        .fault (.invalidOpcode o.code s.cpu.pc))

/-- Rules R40, R440: the only fault is `InvalidOpcode` of an illegal byte fetched at PC, and a faulted
machine is quiescent: every later step returns the same fault and changes nothing. The step that raises
it sets `fault` and nothing else. -/
def Obligations.OnlyIllegalOpcodesFault : Prop :=
  (∀ (s : State) (f : Fault), s.fault = some f → step s = .fault f ∧ clock s = (s, 0, .fault f)) ∧
  ∀ (s : State) (f : Fault), s.fault = none → step s = .fault f →
    clock s = ({ s with fault := some f }, 0, .fault f) ∧
    ∃ (o : IllegalOp) (u : State), ReadsAs s s.cpu.pc o.code u ∧ f = .invalidOpcode o.code s.cpu.pc

/-- Rules R3, R94, R147, R440, R691, R693: a step costs a multiple of 4 from 4 to 28 master cycles, and
the cycle counter grows by it; no step changes the ROM image, the console mode, the subsystem toggles or
the version string, or sets `fault` and goes on. Rules R421, R690, R692, R699: the device phase is that many
master cycles, and in each the counter moves on, then timer, OAM-DMA, serial unit, APU and PPU tick in this
order, each only when enabled and none when frozen, then the cartridge clock; a device's request sets its
IF bit, and nothing else changes. The end phase samples the joypad (`JoypadLines`) and may end STOP. -/
def Obligations.StepCost : Prop :=
  (∀ s t : State, step s = .next t →
    (t.stepCost % 4 = 0 ∧ 4 ≤ t.stepCost ∧ t.stepCost ≤ 28 ∧ t.cycles = s.cycles + t.stepCost) ∧
    t.mem.rom = s.mem.rom ∧ t.model = s.model ∧ t.enable = s.enable ∧ t.version = s.version ∧
    t.fault = none) ∧
  (∀ (frozen : Bool) (n : Nat) (s : State), devicePhase frozen 0 s = s ∧
    devicePhase frozen (n + 1) s = devicePhase frozen n (devicePhase frozen 1 s)) ∧
  (∀ s : State,
    let clock : Cartridge := match s.cart.mapper with
      | .mbc3 m => if m.hasRtc then { s.cart with mapper := .mbc3 m.clockTick } else s.cart
      | .none | .mbc1 _ | .mbc2 _ | .mbc5 _ => s.cart
    let copied := if s.enable.dma = true ∧ s.dma.active = true then s.dmaTick else s
    let picture := s.ppu.tick s.model s.draws s.mem.vram copied.mem.oam
    let u := devicePhase false 1 s
    devicePhase true 1 s = { s with cycles := s.cycles + 1, cart := clock } ∧
    u = { s with
      cycles := s.cycles + 1
      timer := if s.enable.timer then s.timer.tick.1 else s.timer
      dma := copied.dma
      mem := copied.mem
      serial := if s.enable.serial then (s.serial.tick (s.cycles + 1)).1 else s.serial
      apu := if s.enable.apu then s.apu.tick s.mem.waveRam else s.apu
      ppu := if s.enable.ppu then picture.ppu else s.ppu
      draws := if s.enable.ppu then s.draws + picture.drawn else s.draws
      cart := clock
      ints := { s.ints with iflag := u.ints.iflag } } ∧
    u.ints.iflag.getLsbD 0 = (s.ints.iflag.getLsbD 0 || (s.enable.ppu && picture.vblank)) ∧
    u.ints.iflag.getLsbD 1 = (s.ints.iflag.getLsbD 1 || (s.enable.ppu && picture.stat)) ∧
    u.ints.iflag.getLsbD 2 = (s.ints.iflag.getLsbD 2 || (s.enable.timer && s.timer.tick.2)) ∧
    u.ints.iflag.getLsbD 3 =
      (s.ints.iflag.getLsbD 3 || (s.enable.serial && (s.serial.tick (s.cycles + 1)).2)) ∧
    u.ints.iflag.getLsbD 4 = s.ints.iflag.getLsbD 4) ∧
  ∀ (frozen : Bool) (s : State),
    endPhase frozen s = { s with
      joypad := { s.joypad with prev := s.joypad.lines s.cycles }
      ints := { s.ints with iflag := (endPhase frozen s).ints.iflag }
      cpu := { s.cpu with
        stopped := s.cpu.stopped && !(frozen && decide (s.joypad.lines s.cycles ≠ 0xF)) } }

/-- Every step from a legal state leads to a legal state: the ranges 10_state.md gives the fields, the
PPU's mode as its line and dot say (R531), a channel on only with its DAC on (R611), bank registers
that are never 0 (R181, R186, R190), and every memory in canonical form. -/
def Obligations.StepKeepsLegal : Prop :=
  ∀ s t : State, s.legal = true → step s = .next t → t.legal = true

/-- The state after reset is legal. -/
def Obligations.ResetLegal : Prop := State.reset.legal = true

/-- Rules R47, R93, R442, R515, R645: an instruction and a step are refused only for the accesses the
spec refuses, with the state and the address each of them needs: a write below 0xFF00 during a transfer,
one of the registers R93 lists or SC in CGB mode, wave RAM while channel 3 is on. A CPU write is refused
exactly as these rules say, a CPU read exactly at R93's registers in CGB mode. That the refused SC write
is named by 0xFF02 is the model's (log 7). -/
def Obligations.RefusalsAreTheSpecs : Prop :=
  (∀ (i : Instr) (s : State) (q : Refusal), exec i s = .refused q → RefusalAllowed s q) ∧
  (∀ (s : State) (q : Refusal), step s = .refused q → RefusalAllowed s q) ∧
  (∀ (s : State) (a : Word) (v : Byte), s.writeRefusal a v = refusedWrite s a v) ∧
  ∀ (s : State) (a : Word) (q : Refusal), s.busRead a = .refused q ↔
    s.model = .cgb ∧ a ∈ cgbOnlyAddresses ∧ q = .cgbRegister a

/-- Rule R442: outside CGB mode, with no OAM-DMA transfer active and channel 3 off, every instruction
but the eleven illegal bytes runs on every operand, address and register value. -/
def Obligations.EveryInstructionCompletes : Prop :=
  ∀ (i : Instr) (s : State), (∀ o : IllegalOp, i ≠ .illegal o) → s.model ≠ .cgb →
    s.dma.active = false → s.apu.ch3.on = false → ∃ t, exec i s = .next t

/-- Rules R35-R39: of the instructions only DI and RETI write IME, only DI and EI the EI delay, only
HALT sets `halted` or the HALT bug, only STOP sets `stopped`; all else in the CPU's control state is
kept. -/
def Obligations.ControlWriters : Prop :=
  ∀ (i : Instr) (s t : State), exec i s = .next t →
    (i ≠ .di → i ≠ .reti → t.cpu.ime = s.cpu.ime) ∧
    (i ≠ .di → i ≠ .ei → t.cpu.imeDelay = s.cpu.imeDelay) ∧
    (i ≠ .halt → t.cpu.halted = s.cpu.halted ∧ t.cpu.haltBug = false) ∧
    ((∀ n, i ≠ .stop n) → t.cpu.stopped = s.cpu.stopped)

/-! ## 8-bit and 16-bit loads -/

/-- Rules R260, R263, R290, R292: `LD r,r'`, `LD r,n`, `LD rr,nn` and `LD SP,HL`. -/
def Obligations.LoadRegisters : Prop :=
  (∀ (s : State) (r q : Reg8), encode (.ldRegReg r q) = [byte (0x40 + 8 * r.code + q.code)] ∧
    ∃ t, exec (.ldRegReg r q) s = .next t ∧ t.reg8 r = s.reg8 q ∧ SpKept s t ∧ FlagsKept s t ∧
      Leaves 1 4 [r] s s t) ∧
  (∀ (s : State) (r : Reg8) (n : Byte), encode (.ldRegImm r n) = [byte (0x06 + 8 * r.code), n] ∧
    ∃ t, exec (.ldRegImm r n) s = .next t ∧ t.reg8 r = n ∧ SpKept s t ∧ FlagsKept s t ∧
      Leaves 2 8 [r] s s t) ∧
  (∀ (s : State) (p : Reg16) (nn : Word),
    encode (.ldPairImm p nn) = [byte (0x01 + 16 * p.code), loByte nn, hiByte nn] ∧
    ∃ t, exec (.ldPairImm p nn) s = .next t ∧ t.reg16 p = nn ∧ FlagsKept s t ∧
      (∀ p', p' ≠ p → t.reg16 p' = s.reg16 p') ∧
      Leaves 3 12 [.b, .c, .d, .e, .h, .l] s s t) ∧
  ∀ s : State, encode .ldSpHl = [0xF9] ∧
    ∃ t, exec .ldSpHl s = .next t ∧ t.cpu.sp = s.hl ∧ FlagsKept s t ∧ Leaves 1 8 [] s s t

/-- Rules R261, R265, R266, R269, R271, R273: the loads of a byte of memory into a register. -/
def Obligations.LoadFromMemory : Prop :=
  (∀ r : Reg8, Loads (.ldRegMem r) [byte (0x46 + 8 * r.code)] r
    (fun s => wordOf (s.reg8 .h) (s.reg8 .l)) 8) ∧
  Loads .ldAMbc [0x0A] .a (fun s => wordOf (s.reg8 .b) (s.reg8 .c)) 8 ∧
  Loads .ldAMde [0x1A] .a (fun s => wordOf (s.reg8 .d) (s.reg8 .e)) 8 ∧
  (∀ nn : Word, Loads (.ldAMnn nn) [0xFA, loByte nn, hiByte nn] .a (fun _ => nn) 16) ∧
  (∀ n : Byte, Loads (.ldhAMn n) [0xF0, n] .a (fun _ => 0xFF00 + n.zeroExtend 16) 12) ∧
  Loads .ldhAMc [0xF2] .a (fun s => 0xFF00 + (s.reg8 .c).zeroExtend 16) 8

/-- Rules R262, R264, R267, R268, R270, R272, R274: the stores of a byte. -/
def Obligations.StoreByte : Prop :=
  (∀ r : Reg8, Stores (.ldMemReg r) [byte (0x70 + r.code)]
    (fun s => wordOf (s.reg8 .h) (s.reg8 .l)) (fun s => s.reg8 r) 8) ∧
  (∀ n : Byte, Stores (.ldMhlN n) [0x36, n] (fun s => wordOf (s.reg8 .h) (s.reg8 .l)) (fun _ => n) 12) ∧
  Stores .ldMbcA [0x02] (fun s => wordOf (s.reg8 .b) (s.reg8 .c)) (fun s => s.reg8 .a) 8 ∧
  Stores .ldMdeA [0x12] (fun s => wordOf (s.reg8 .d) (s.reg8 .e)) (fun s => s.reg8 .a) 8 ∧
  (∀ nn : Word, Stores (.ldMnnA nn) [0xEA, loByte nn, hiByte nn] (fun _ => nn) (fun s => s.reg8 .a) 16) ∧
  (∀ n : Byte, Stores (.ldhMnA n) [0xE0, n] (fun _ => 0xFF00 + n.zeroExtend 16) (fun s => s.reg8 .a) 12) ∧
  Stores .ldhMcA [0xE2] (fun s => 0xFF00 + (s.reg8 .c).zeroExtend 16) (fun s => s.reg8 .a) 8

/-- Rules R275-R278: the loads and stores that move HL on; the access uses the old HL, and a refused
access refuses the instruction. -/
def Obligations.LoadStoreMove : Prop :=
  (∀ (s : State) (i : Instr) (enc : Byte) (hl : Word),
    (i = .ldMhliA ∧ enc = 0x22 ∧ hl = s.hl + 1) ∨ (i = .ldMhldA ∧ enc = 0x32 ∧ hl = s.hl - 1) →
    encode i = [enc] ∧
    (s.writeRefusal s.hl (s.reg8 .a) = none → ∃ t, exec i s = .next t ∧ t.hl = hl ∧ SpKept s t ∧
      FlagsKept s t ∧ Leaves 1 8 [.h, .l] s (s.storeByte s.hl (s.reg8 .a)) t) ∧
    ∀ q, s.writeRefusal s.hl (s.reg8 .a) = some q → exec i s = .refused q) ∧
  ∀ (s : State) (i : Instr) (enc : Byte) (hl : Word),
    (i = .ldAMhli ∧ enc = 0x2A ∧ hl = s.hl + 1) ∨ (i = .ldAMhld ∧ enc = 0x3A ∧ hl = s.hl - 1) →
    encode i = [enc] ∧
    (∀ v u, ReadsAs s s.hl v u → ∃ t, exec i s = .next t ∧ t.reg8 .a = v ∧ t.hl = hl ∧ SpKept s t ∧
      FlagsKept s t ∧ Leaves 1 8 [.a, .h, .l] s u t) ∧
    ∀ q, s.busRead s.hl = .refused q → exec i s = .refused q

/-- Rule R291: `LD (nn),SP` stores the low byte of SP at nn, then the high byte at nn + 1; either
write refused refuses it. -/
def Obligations.StoreStackPointer : Prop :=
  ∀ (s : State) (nn : Word), encode (.ldMnnSp nn) = [0x08, loByte nn, hiByte nn] ∧
    (s.writeRefusal nn (loByte s.cpu.sp) = none →
      (s.storeByte nn (loByte s.cpu.sp)).writeRefusal (nn + 1) (hiByte s.cpu.sp) = none →
      ∃ t, exec (.ldMnnSp nn) s = .next t ∧ SpKept s t ∧ FlagsKept s t ∧
        Leaves 3 20 [] s
          ((s.storeByte nn (loByte s.cpu.sp)).storeByte (nn + 1) (hiByte s.cpu.sp)) t) ∧
    (∀ q, s.writeRefusal nn (loByte s.cpu.sp) = some q → exec (.ldMnnSp nn) s = .refused q) ∧
    ∀ q, s.writeRefusal nn (loByte s.cpu.sp) = none →
      (s.storeByte nn (loByte s.cpu.sp)).writeRefusal (nn + 1) (hiByte s.cpu.sp) = some q →
      exec (.ldMnnSp nn) s = .refused q

/-- Rules R293, R343: `LD HL,SP+e` and `ADD SP,e`: SP + e modulo 65536; Z and N clear, H and C from the
unsigned addition of SP's low byte and the raw byte of e. -/
def Obligations.StackOffset : Prop :=
  ∀ (s : State) (e : Int), -128 ≤ e → e ≤ 127 →
    encode (.ldHlSpE e) = [0xF8, byte (e % 256).toNat] ∧
    encode (.addSpE e) = [0xE8, byte (e % 256).toNat] ∧
    (∃ t, exec (.ldHlSpE e) s = .next t ∧
      (t.hl.toNat : Int) = ((s.cpu.sp.toNat : Int) + e) % 65536 ∧ SpKept s t ∧
      t.cpu.flags = ⟨false, false, decide (s.cpu.sp.toNat % 16 + (e % 16).toNat > 15),
        decide (s.cpu.sp.toNat % 256 + (e % 256).toNat > 255)⟩ ∧ Leaves 2 12 [.h, .l] s s t) ∧
    ∃ t, exec (.addSpE e) s = .next t ∧
      (t.cpu.sp.toNat : Int) = ((s.cpu.sp.toNat : Int) + e) % 65536 ∧
      t.cpu.flags = ⟨false, false, decide (s.cpu.sp.toNat % 16 + (e % 16).toNat > 15),
        decide (s.cpu.sp.toNat % 256 + (e % 256).toNat > 255)⟩ ∧ Leaves 2 16 [] s s t

/-- Rules R31, R294: PUSH: the high byte at SP - 1, then the low byte at SP - 2; F is pushed with its
low nibble 0; either write refused refuses it. -/
def Obligations.PushPair : Prop :=
  ∀ (s : State) (p : StackPair), encode (.pushPair p) = [byte (0xC5 + 16 * p.code)] ∧
    (p = .af → hiByte (s.stackPair p) = s.reg8 .a ∧ (loByte (s.stackPair p)).toNat =
      128 * s.cpu.flags.z.toNat + 64 * s.cpu.flags.n.toNat + 32 * s.cpu.flags.h.toNat +
        16 * s.cpu.flags.c.toNat) ∧
    (∀ u, Pushes s (s.stackPair p) u → ∃ t, exec (.pushPair p) s = .next t ∧
      t.cpu.sp = s.cpu.sp - 2 ∧ FlagsKept s t ∧ Leaves 1 16 [] s u t) ∧
    ∀ q, PushRefused s (s.stackPair p) q → exec (.pushPair p) s = .refused q

/-- Rules R295, R296: POP: the low byte from SP, the high byte from SP + 1, SP + 2; POP AF writes all
four flags from bits 7-4 of the low byte and drops its low nibble. -/
def Obligations.PopPair : Prop :=
  ∀ (s u : State) (v : Word), ReadsWord s s.cpu.sp v u →
    (∀ p : StackPair, encode (.popPair p) = [byte (0xC1 + 16 * p.code)]) ∧
    (∀ (p : StackPair) (p' : Reg16), (p = .bc ∧ p' = .bc) ∨ (p = .de ∧ p' = .de) ∨ (p = .hl ∧ p' = .hl) →
      ∃ t, exec (.popPair p) s = .next t ∧ t.reg16 p' = v ∧
        (∀ q, q ≠ p' → q ≠ .sp → t.reg16 q = s.reg16 q) ∧ t.cpu.sp = s.cpu.sp + 2 ∧
        FlagsKept s t ∧ Leaves 1 12 [.b, .c, .d, .e, .h, .l] s u t) ∧
    ∃ t, exec .popAf s = .next t ∧ t.reg8 .a = hiByte v ∧
      t.cpu.flags = ⟨v.getLsbD 7, v.getLsbD 6, v.getLsbD 5, v.getLsbD 4⟩ ∧
      t.cpu.sp = s.cpu.sp + 2 ∧ Leaves 1 12 [.a] s u t

/-! ## Arithmetic and logic -/

/-- Rules R310-R318: the eight operations on A, for a register, the byte at HL and an immediate; CP
leaves A alone. -/
def Obligations.AluResultAndFlags : Prop :=
  AluMeans .add (fun a v _ => (a + v) % 256)
    (fun a v _ => ⟨decide ((a + v) % 256 = 0), false, decide (a % 16 + v % 16 > 15),
      decide (a + v > 255)⟩) ∧
  AluMeans .adc (fun a v c => (a + v + c) % 256)
    (fun a v c => ⟨decide ((a + v + c) % 256 = 0), false, decide (a % 16 + v % 16 + c > 15),
      decide (a + v + c > 255)⟩) ∧
  AluMeans .sub (fun a v _ => (a + 256 - v) % 256)
    (fun a v _ => ⟨decide (a = v), true, decide (a % 16 < v % 16), decide (a < v)⟩) ∧
  AluMeans .sbc (fun a v c => (a + 512 - v - c) % 256)
    (fun a v c => ⟨decide ((a + 512 - v - c) % 256 = 0), true, decide (a % 16 < v % 16 + c),
      decide (a < v + c)⟩) ∧
  AluMeans .cp (fun a _ _ => a)
    (fun a v _ => ⟨decide (a = v), true, decide (a % 16 < v % 16), decide (a < v)⟩) ∧
  AluMeans .and (fun a v _ => a &&& v) (fun a v _ => ⟨decide (a &&& v = 0), false, true, false⟩) ∧
  AluMeans .xor (fun a v _ => a ^^^ v) (fun a v _ => ⟨decide (a ^^^ v = 0), false, false, false⟩) ∧
  AluMeans .or (fun a v _ => a ||| v) (fun a v _ => ⟨decide (a ||| v = 0), false, false, false⟩)

/-- Rules R319-R322: INC and DEC of a register or of the byte at HL, which is written back; C is
unchanged, and a refused write refuses the instruction. -/
def Obligations.IncDecByte : Prop :=
  ∀ (s u : State) (src : Option Reg8) (v : Byte), Operand s src v u →
    encode (.incOn src) = [byte (0x04 + 8 * operandCode src)] ∧
    encode (.decOn src) = [byte (0x05 + 8 * operandCode src)] ∧
    (∀ w, PutsBack s u src (v + 1) w → ∃ t, exec (.incOn src) s = .next t ∧
      HoldsBack t src (v + 1) ∧
      t.cpu.flags = ⟨decide (v.toNat = 255), false, decide (v.toNat % 16 = 15), s.cpu.flags.c⟩ ∧
      SpKept s t ∧ Leaves 1 (formCost 4 12 src) (putBackRegs src) s w t) ∧
    (∀ w, PutsBack s u src (v - 1) w → ∃ t, exec (.decOn src) s = .next t ∧
      HoldsBack t src (v - 1) ∧
      t.cpu.flags = ⟨decide (v.toNat = 1), true, decide (v.toNat % 16 = 0), s.cpu.flags.c⟩ ∧
      SpKept s t ∧ Leaves 1 (formCost 4 12 src) (putBackRegs src) s w t) ∧
    (∀ q, src = none → u.writeRefusal s.hl (v + 1) = some q → exec .incMhl s = .refused q) ∧
    ∀ q, src = none → u.writeRefusal s.hl (v - 1) = some q → exec .decMhl s = .refused q

/-- Rules R323-R326: DAA, CPL, SCF and CCF. -/
def Obligations.AccumulatorAdjust : Prop :=
  (∀ s : State, encode .daa = [0x27] ∧ ∃ t, exec .daa s = .next t ∧
    (let a := (s.reg8 .a).toNat
     let f := s.cpu.flags
     let c := f.c || (!f.n && decide (a > 0x99))
     let low := f.h || (!f.n && decide (a % 16 > 9))
     let d := (if c then 0x60 else 0) + (if low then 0x06 else 0)
     let r := if f.n then (a + 256 - d) % 256 else (a + d) % 256
     (t.reg8 .a).toNat = r ∧ t.cpu.flags = ⟨decide (r = 0), f.n, false, c⟩) ∧
    SpKept s t ∧ Leaves 1 4 [.a] s s t) ∧
  ∀ s : State,
    (encode .cpl = [0x2F] ∧ ∃ t, exec .cpl s = .next t ∧
      (t.reg8 .a).toNat = 255 - (s.reg8 .a).toNat ∧
      t.cpu.flags = ⟨s.cpu.flags.z, true, true, s.cpu.flags.c⟩ ∧ SpKept s t ∧ Leaves 1 4 [.a] s s t) ∧
    (encode .scf = [0x37] ∧ ∃ t, exec .scf s = .next t ∧
      t.cpu.flags = ⟨s.cpu.flags.z, false, false, true⟩ ∧ SpKept s t ∧ Leaves 1 4 [] s s t) ∧
    (encode .ccf = [0x3F] ∧ ∃ t, exec .ccf s = .next t ∧
      t.cpu.flags = ⟨s.cpu.flags.z, false, false, !s.cpu.flags.c⟩ ∧ SpKept s t ∧ Leaves 1 4 [] s s t)

/-- Rules R340-R342: ADD HL,rr (Z unchanged), INC rr and DEC rr (no flag). -/
def Obligations.WordArithmetic : Prop :=
  ∀ (s : State) (p : Reg16),
    (encode (.addHlPair p) = [byte (0x09 + 16 * p.code)] ∧ ∃ t, exec (.addHlPair p) s = .next t ∧
      t.hl.toNat = (s.hl.toNat + (s.reg16 p).toNat) % 65536 ∧
      t.cpu.flags = ⟨s.cpu.flags.z, false,
        decide (s.hl.toNat % 4096 + (s.reg16 p).toNat % 4096 > 4095),
        decide (s.hl.toNat + (s.reg16 p).toNat > 65535)⟩ ∧ SpKept s t ∧ Leaves 1 8 [.h, .l] s s t) ∧
    (encode (.incPair p) = [byte (0x03 + 16 * p.code)] ∧ ∃ t, exec (.incPair p) s = .next t ∧
      (t.reg16 p).toNat = ((s.reg16 p).toNat + 1) % 65536 ∧ FlagsKept s t ∧
      (∀ p', p' ≠ p → t.reg16 p' = s.reg16 p') ∧ Leaves 1 8 [.b, .c, .d, .e, .h, .l] s s t) ∧
    (encode (.decPair p) = [byte (0x0B + 16 * p.code)] ∧ ∃ t, exec (.decPair p) s = .next t ∧
      (t.reg16 p).toNat = ((s.reg16 p).toNat + 65535) % 65536 ∧ FlagsKept s t ∧
      (∀ p', p' ≠ p → t.reg16 p' = s.reg16 p') ∧ Leaves 1 8 [.b, .c, .d, .e, .h, .l] s s t)

/-! ## Rotates, shifts and bits -/

/-- Rules R350-R353: RLCA, RRCA, RLA and RRA, which clear Z. -/
def Obligations.RotateAccumulator : Prop :=
  ∀ (s : State) (i : Instr) (enc : Byte) (op : ShiftOp),
    (i = .rlca ∧ enc = 0x07 ∧ op = .rlc) ∨ (i = .rrca ∧ enc = 0x0F ∧ op = .rrc) ∨
      (i = .rla ∧ enc = 0x17 ∧ op = .rl) ∨ (i = .rra ∧ enc = 0x1F ∧ op = .rr) →
    encode i = [enc] ∧ ∃ t, exec i s = .next t ∧
      (t.reg8 .a).toNat = (shiftMeaning op (s.reg8 .a).toNat s.cpu.flags.c.toNat).1 ∧
      t.cpu.flags = ⟨false, false, false,
        decide ((shiftMeaning op (s.reg8 .a).toNat s.cpu.flags.c.toNat).2 = 1)⟩ ∧
      SpKept s t ∧ Leaves 1 4 [.a] s s t

/-- Rules R354-R362: the CB rotates and shifts, of a register or of the byte at HL, which is written
back. -/
def Obligations.RotateShift : Prop :=
  ∀ (s u : State) (op : ShiftOp) (src : Option Reg8) (o : Byte), Operand s src o u →
    encode (.shiftOn op src) = [0xCB, byte (8 * op.code + operandCode src)] ∧
    (∀ (res : Byte) (w : State), res.toNat = (shiftMeaning op o.toNat s.cpu.flags.c.toNat).1 →
      PutsBack s u src res w → ∃ t, exec (.shiftOn op src) s = .next t ∧ HoldsBack t src res ∧
        t.cpu.flags = ⟨decide (res = 0), false, false,
          decide ((shiftMeaning op o.toNat s.cpu.flags.c.toNat).2 = 1)⟩ ∧
        SpKept s t ∧ Leaves 2 (formCost 8 16 src) (putBackRegs src) s w t) ∧
    (∃ res : Byte, res.toNat = (shiftMeaning op o.toNat s.cpu.flags.c.toNat).1) ∧
    ∀ (res : Byte) (q : Refusal), res.toNat = (shiftMeaning op o.toNat s.cpu.flags.c.toNat).1 →
      src = none → u.writeRefusal s.hl res = some q → exec (.shiftOn op none) s = .refused q

/-- Rules R363-R365: BIT tests a bit of a register or of the byte at HL and stores nothing, C unchanged;
RES and SET change one bit, write it back even when nothing changes, and write no flag. -/
def Obligations.BitOperations : Prop :=
  (∀ (s u : State) (b : Field3) (src : Option Reg8) (o : Byte), Operand s src o u →
    encode (.bitOn b src) = [0xCB, byte (0x40 + 8 * b.val + operandCode src)] ∧
    ∃ t, exec (.bitOn b src) s = .next t ∧
      t.cpu.flags = ⟨decide (o.toNat / 2 ^ b.val % 2 = 0), false, true, s.cpu.flags.c⟩ ∧ SpKept s t ∧
      Leaves 2 (formCost 8 12 src) [] s u t) ∧
  ∀ (s u : State) (b : Field3) (src : Option Reg8) (o : Byte), Operand s src o u →
    encode (.resOn b src) = [0xCB, byte (0x80 + 8 * b.val + operandCode src)] ∧
    encode (.setOn b src) = [0xCB, byte (0xC0 + 8 * b.val + operandCode src)] ∧
    ∃ clear set : Byte, (∀ k, k < 8 → clear.getLsbD k = (o.getLsbD k && decide (k ≠ b.val))) ∧
      (∀ k, k < 8 → set.getLsbD k = (o.getLsbD k || decide (k = b.val))) ∧
      (∀ w, PutsBack s u src clear w → ∃ t, exec (.resOn b src) s = .next t ∧ HoldsBack t src clear ∧
        SpKept s t ∧ FlagsKept s t ∧ Leaves 2 (formCost 8 16 src) (putBackRegs src) s w t) ∧
      (∀ w, PutsBack s u src set w → ∃ t, exec (.setOn b src) s = .next t ∧ HoldsBack t src set ∧
        SpKept s t ∧ FlagsKept s t ∧ Leaves 2 (formCost 8 16 src) (putBackRegs src) s w t) ∧
      (∀ q, src = none → u.writeRefusal s.hl clear = some q → exec (.resOn b none) s = .refused q) ∧
      ∀ q, src = none → u.writeRefusal s.hl set = some q → exec (.setOn b none) s = .refused q

/-! ## Control transfer and system -/

/-- Rules R227, R380-R384: JP nn, JP cc, JP HL, JR e and JR cc; an untaken one runs on to the next
instruction. -/
def Obligations.Jumps : Prop :=
  (∀ f : Flags, f.holds .nz = !f.z ∧ f.holds .z = f.z ∧ f.holds .nc = !f.c ∧ f.holds .c = f.c) ∧
  ∀ (s : State) (nn : Word) (e : Int) (cc : Cond),
    (encode (.jpNn nn) = [0xC3, loByte nn, hiByte nn] ∧ ∃ t, exec (.jpNn nn) s = .next t ∧
      SpKept s t ∧ ControlKept s t ∧ JumpsTo nn 16 s s t) ∧
    (encode .jpHl = [0xE9] ∧ ∃ t, exec .jpHl s = .next t ∧ SpKept s t ∧ ControlKept s t ∧
      JumpsTo s.hl 4 s s t) ∧
    (encode (.jpCond cc nn) = [byte (0xC2 + 8 * cc.code), loByte nn, hiByte nn] ∧
      ∃ t, exec (.jpCond cc nn) s = .next t ∧ SpKept s t ∧ ControlKept s t ∧
        if s.cpu.flags.holds cc then JumpsTo nn 16 s s t
        else FlagsKept s t ∧ Leaves 3 12 [] s s t) ∧
    (encode (.jrE e) = [0x18, byte (e % 256).toNat] ∧ ∃ t, exec (.jrE e) s = .next t ∧
      SpKept s t ∧ ControlKept s t ∧ JumpsTo t.cpu.pc 12 s s t ∧
      (t.cpu.pc.toNat : Int) =
        (s.cpu.pc.toNat + (if s.cpu.haltBug then 1 else 2) + e) % 65536) ∧
    (encode (.jrCond cc e) = [byte (0x20 + 8 * cc.code), byte (e % 256).toNat] ∧
      ∃ t, exec (.jrCond cc e) s = .next t ∧ SpKept s t ∧ ControlKept s t ∧
        if s.cpu.flags.holds cc then JumpsTo t.cpu.pc 12 s s t ∧ (t.cpu.pc.toNat : Int) =
          (s.cpu.pc.toNat + (if s.cpu.haltBug then 1 else 2) + e) % 65536
        else FlagsKept s t ∧ Leaves 2 8 [] s s t)

/-- Rules R385, R386, R395, R397: CALL nn, CALL cc and RST push the address of the next instruction
and go to the target; an untaken CALL cc touches nothing; a refused push refuses the instruction. -/
def Obligations.Calls : Prop :=
  ∀ (s : State) (nn : Word) (cc : Cond) (y : Field3),
    encode (.callNn nn) = [0xCD, loByte nn, hiByte nn] ∧
    encode (.callCond cc nn) = [byte (0xC4 + 8 * cc.code), loByte nn, hiByte nn] ∧
    encode (.rstVec y) = [byte (0xC7 + 8 * y.val)] ∧
    (∀ u, Pushes s (s.cpu.pc + if s.cpu.haltBug then 2 else 3) u →
      (∃ t, exec (.callNn nn) s = .next t ∧ t.cpu.sp = s.cpu.sp - 2 ∧ ControlKept s t ∧
        JumpsTo nn 24 s u t) ∧
      (s.cpu.flags.holds cc = true → ∃ t, exec (.callCond cc nn) s = .next t ∧
        t.cpu.sp = s.cpu.sp - 2 ∧ ControlKept s t ∧ JumpsTo nn 24 s u t)) ∧
    (s.cpu.flags.holds cc = false → ∃ t, exec (.callCond cc nn) s = .next t ∧ SpKept s t ∧
      FlagsKept s t ∧ Leaves 3 12 [] s s t) ∧
    (∀ u, Pushes s (s.cpu.pc + if s.cpu.haltBug then 0 else 1) u →
      ∃ t, exec (.rstVec y) s = .next t ∧ t.cpu.sp = s.cpu.sp - 2 ∧ ControlKept s t ∧
        JumpsTo (BitVec.ofNat 16 (8 * y.val)) 16 s u t) ∧
    (∀ q, PushRefused s (s.cpu.pc + if s.cpu.haltBug then 2 else 3) q →
      exec (.callNn nn) s = .refused q ∧
        (s.cpu.flags.holds cc = true → exec (.callCond cc nn) s = .refused q)) ∧
    ∀ q, PushRefused s (s.cpu.pc + if s.cpu.haltBug then 0 else 1) q →
      exec (.rstVec y) s = .refused q

/-- Rules R387, R388, R394: RET, RET cc and RETI pop PC; RETI also sets IME at once and leaves the EI
delay; an untaken RET cc reads nothing. -/
def Obligations.Returns : Prop :=
  ∀ (s : State) (cc : Cond),
    encode .ret = [0xC9] ∧ encode (.retCond cc) = [byte (0xC0 + 8 * cc.code)] ∧ encode .reti = [0xD9] ∧
    (∀ (v : Word) (u : State), ReadsWord s s.cpu.sp v u →
      (∃ t, exec .ret s = .next t ∧ t.cpu.sp = s.cpu.sp + 2 ∧ ControlKept s t ∧ JumpsTo v 16 s u t) ∧
      (s.cpu.flags.holds cc = true → ∃ t, exec (.retCond cc) s = .next t ∧
        t.cpu.sp = s.cpu.sp + 2 ∧ ControlKept s t ∧ JumpsTo v 20 s u t) ∧
      ∃ t, exec .reti s = .next t ∧ t.cpu.sp = s.cpu.sp + 2 ∧ t.cpu.ime = true ∧
        t.cpu.imeDelay = s.cpu.imeDelay ∧ t.cpu.halted = s.cpu.halted ∧
        t.cpu.stopped = s.cpu.stopped ∧ JumpsTo v 16 s u t) ∧
    (s.cpu.flags.holds cc = false → ∃ t, exec (.retCond cc) s = .next t ∧ SpKept s t ∧
      FlagsKept s t ∧ Leaves 1 8 [] s s t)

/-- Rules R400, R402-R405: NOP changes nothing; DI clears IME and the EI delay; EI sets the delay and
leaves IME; HALT halts the CPU, or arms the HALT bug when IME is clear and an interrupt is pending; STOP
stops it and does to the timer what a DIV write does. -/
def Obligations.CpuControl : Prop :=
  ∀ (s : State) (n : Byte),
    (encode .nop = [0x00] ∧ ∃ t, exec .nop s = .next t ∧ SpKept s t ∧ FlagsKept s t ∧
      Leaves 1 4 [] s s t) ∧
    (encode .di = [0xF3] ∧ ∃ t, exec .di s = .next t ∧ t.cpu.ime = false ∧ t.cpu.imeDelay = false ∧
      t.cpu.halted = s.cpu.halted ∧ t.cpu.stopped = s.cpu.stopped ∧ Passes 1 s t ∧ Spends 4 s t ∧
      RegsKept [] s t ∧ SpKept s t ∧ FlagsKept s t ∧ OutsideIs s t) ∧
    (encode .ei = [0xFB] ∧ ∃ t, exec .ei s = .next t ∧ t.cpu.ime = s.cpu.ime ∧
      t.cpu.imeDelay = true ∧ t.cpu.halted = s.cpu.halted ∧ t.cpu.stopped = s.cpu.stopped ∧
      Passes 1 s t ∧ Spends 4 s t ∧ RegsKept [] s t ∧ SpKept s t ∧ FlagsKept s t ∧ OutsideIs s t) ∧
    (encode .halt = [0x76] ∧ ∃ t, exec .halt s = .next t ∧
      t.cpu.halted = (s.cpu.halted || s.cpu.ime || s.ints.pending == 0) ∧
      t.cpu.haltBug = (!s.cpu.ime && s.ints.pending != 0) ∧
      t.cpu.ime = s.cpu.ime ∧ t.cpu.imeDelay = s.cpu.imeDelay ∧ t.cpu.stopped = s.cpu.stopped ∧
      Passes 1 s t ∧ t.stepCost = s.stepCost + 4 ∧ RegsKept [] s t ∧ SpKept s t ∧ FlagsKept s t ∧
      OutsideIs s t) ∧
    (encode (.stop n) = [0x10, n] ∧ ∃ t, exec (.stop n) s = .next t ∧ t.cpu.stopped = true ∧
      t.cpu.ime = s.cpu.ime ∧ t.cpu.imeDelay = s.cpu.imeDelay ∧ t.cpu.halted = s.cpu.halted ∧
      Passes 2 s t ∧ Spends 4 s t ∧ RegsKept [] s t ∧ SpKept s t ∧ FlagsKept s t ∧
      OutsideIs { s with timer := (s.storeByte 0xFF04 0).timer } t)

/-- Rules R47, R93, R145, R354: a refused read refuses every instruction that reads the byte at HL, and
the reads of POP, RET and RETI. -/
def Obligations.RefusedReads : Prop :=
  (∀ (s : State) (q : Refusal) (o : AluOp) (op : ShiftOp) (b : Field3), s.busRead s.hl = .refused q →
    exec (.aluMem o) s = .refused q ∧ exec .incMhl s = .refused q ∧ exec .decMhl s = .refused q ∧
    exec (.shiftMem op) s = .refused q ∧ exec (.bitMem b) s = .refused q ∧
    exec (.resMem b) s = .refused q ∧ exec (.setMem b) s = .refused q) ∧
  ∀ (s : State) (q : Refusal) (p : StackPair) (cc : Cond),
    (s.busRead s.cpu.sp = .refused q ∨
      (∀ q', s.busRead s.cpu.sp ≠ .refused q') ∧ s.busRead (s.cpu.sp + 1) = .refused q) →
    exec (.popPair p) s = .refused q ∧ exec .ret s = .refused q ∧ exec .reti s = .refused q ∧
    (s.cpu.flags.holds cc = true → exec (.retCond cc) s = .refused q)

/-! ## Memory -/

/-- The frame of every instruction over memory: if what it stores to is plain storage, every byte
outside the stored ones (and outside their mirrors, R153, R173, R188) reads after it as before; STOP
also resets the divider, so DIV and TIMA are left out for it (R403, R463). -/
def Obligations.MemoryFrame : Prop :=
  ∀ (i : Instr) (s t : State), s.mem.wf = true → exec i s = .next t →
    (∀ a ∈ storedAt s i, s.plainAt a = true) →
    ∀ b : Word, (∀ a ∈ storedAt s i, s.sameCell a b = false) →
      ((∀ n, i ≠ .stop n) ∨ (b ≠ 0xFF04 ∧ b ≠ 0xFF05)) → t.busRead b = s.busRead b

/-- Rules R143-R146, R153, R158, R188: a CPU write to plain storage that no gate closes is not
refused; the byte reads back at its address and at its mirrors, every other byte reads as before, and
nothing but the memories (and IE at 0xFFFF) changes. -/
def Obligations.OpenStoreReadsBack : Prop :=
  ∀ (s : State) (a : Word) (v : Byte), s.mem.wf = true → s.openAt a = true →
    s.writeRefusal a v = none ∧
    (∀ b, (s.storeByte a v).busRead b =
      if s.sameCell a b then .value (s.readBack a v) else s.busRead b) ∧
    (s.storeByte a v).mem.wf = true ∧
    s.storeByte a v = { s with mem := (s.storeByte a v).mem
                               ints := { s.ints with ie := if a = 0xFFFF then v else s.ints.ie } }

/-- Rules R59, R91, R148, R154, R156, R201: the writes that are ignored: a blocked byte of VRAM or OAM,
the unusable region, absent or disabled cartridge RAM, LY, and an unmapped I/O address; and what a read
there gives. -/
def Obligations.IgnoredStores : Prop :=
  ∀ (s : State) (a : Word) (v : Byte), s.busTaken a = false →
    (0x8000 ≤ a.toNat → a.toNat < 0xA000 → s.vramBlocked = true →
      s.storeByte a v = s ∧ s.busRead a = .value 0xFF) ∧
    (0xFE00 ≤ a.toNat → a.toNat < 0xFEA0 → s.oamBlocked = true →
      s.storeByte a v = s ∧ s.busRead a = .value 0xFF) ∧
    (0xFEA0 ≤ a.toNat → a.toNat < 0xFF00 → s.storeByte a v = s ∧ s.busRead a = .drawn) ∧
    (0xA000 ≤ a.toNat → a.toNat < 0xC000 → s.cart.ramTarget a = .closed →
      s.storeByte a v = s ∧ s.busRead a = .value 0xFF) ∧
    (a = 0xFF44 → s.storeByte a v = s ∧ s.busRead a = .value (BitVec.ofNat 8 s.ppu.ly)) ∧
    (0xFF00 ≤ a.toNat → a.toNat < 0xFF80 → ioReg s.model a = .unmapped →
      s.storeByte a v = s ∧ s.busRead a = .value 0xFF)

/-- Rules R143-R147, R160: a CPU write below 0x8000 changes the mapper alone (`MapperControl`), a write to
an I/O register the one device it belongs to, and it stores what that register's rule says: SB and SC
(R491), the PPU's registers (R540, R543), the APU's with the power on (R606-R611, R615, R680; a trigger is in
`ApuTrigger`), NR52 (R602); a write to a selected MBC3 clock register stores its bits (R193). LCDC is in
`PpuOff`, the timer in `TimerWrites`, DMA in `DmaBusGate`. -/
def Obligations.StoreTouchesOneDevice : Prop :=
  ∀ (s : State) (a : Word) (v : Byte),
    (a.toNat < 0x8000 → s.storeByte a v =
      { s with cart := { s.cart with mapper := (s.storeByte a v).cart.mapper } }) ∧
    (a = 0xFF00 → s.storeByte a v =
      { s with joypad := { s.joypad with select := v.extractLsb' 4 2 } }) ∧
    (a = 0xFF01 ∨ a = 0xFF02 → s.storeByte a v = { s with serial := (s.storeByte a v).serial }) ∧
    (0xFF04 ≤ a.toNat → a.toNat ≤ 0xFF07 → s.storeByte a v = { s with timer := (s.storeByte a v).timer }) ∧
    (a = 0xFF0F → s.storeByte a v = { s with ints := { s.ints with iflag := v.extractLsb' 0 5 } }) ∧
    (0xFF10 ≤ a.toNat → a.toNat ≤ 0xFF26 → s.storeByte a v = { s with apu := (s.storeByte a v).apu }) ∧
    (0xFF30 ≤ a.toNat → a.toNat ≤ 0xFF3F → s.storeByte a v =
      { s with mem := { s.mem with waveRam := Store.write s.mem.waveRam (a.toNat - 0xFF30) v } }) ∧
    (0xFF40 ≤ a.toNat → a.toNat ≤ 0xFF4B → a ≠ 0xFF46 →
      s.storeByte a v = { s with ppu := (s.storeByte a v).ppu }) ∧
    (a = 0xFF46 → s.storeByte a v = { s with dma := (s.storeByte a v).dma }) ∧
    (a = 0xFF70 → s.storeByte a v =
      { s with svbk := if s.model = .cgb then v.extractLsb' 0 3 else s.svbk }) ∧
    (a = 0xFF01 → (s.storeByte a v).serial = { s.serial with sb := v }) ∧
    (a = 0xFF02 → (s.storeByte a v).serial =
      if v.getLsbD 7 then { s.serial with active := true, internal := v.getLsbD 0, bits := 0, clock := 0 }
      else { s.serial with active := false, internal := v.getLsbD 0 }) ∧
    (a = 0xFF41 → (s.storeByte a v).ppu = { s.ppu with statSelect := BitVec.ofNat 4 (v.toNat / 8 % 16) }) ∧
    (a = 0xFF42 → (s.storeByte a v).ppu = { s.ppu with scy := v }) ∧
    (a = 0xFF43 → (s.storeByte a v).ppu = { s.ppu with scx := v }) ∧
    (a = 0xFF45 → (s.storeByte a v).ppu = { s.ppu with lyc := v }) ∧
    (a = 0xFF47 → (s.storeByte a v).ppu = { s.ppu with bgp := v }) ∧
    (a = 0xFF48 → (s.storeByte a v).ppu = { s.ppu with obp0 := v }) ∧
    (a = 0xFF49 → (s.storeByte a v).ppu = { s.ppu with obp1 := v }) ∧
    (a = 0xFF4A → (s.storeByte a v).ppu = { s.ppu with wy := v }) ∧
    (a = 0xFF4B → (s.storeByte a v).ppu = { s.ppu with wx := v }) ∧
    (let u := (s.storeByte a v).apu
     let p := s.apu
     let dac := decide (v.toNat / 8 ≠ 0)
     let low (old : BitVec 11) : BitVec 11 := BitVec.ofNat 11 (old.toNat / 256 * 256 + v.toNat)
     let high (old : BitVec 11) : BitVec 11 := BitVec.ofNat 11 (v.toNat % 8 * 256 + old.toNat % 256)
     let extra (en : Bool) (length : Nat) : Nat :=
      if en = false ∧ v.getLsbD 6 = true ∧ p.fsStep % 2 = 1 ∧ 0 < length then 1 else 0
     let stays (en on : Bool) (length : Nat) : Bool := on && decide (extra en length = 0 ∨ length ≠ 1)
     (a = 0xFF26 → u =
        if p.power = false ∧ v.getLsbD 7 = true then
          { p with
            power := true, fsCounter := 0, fsStep := 0, ch1 := { p.ch1 with dutyPos := 0 }
            ch2 := { p.ch2 with dutyPos := 0 }, ch3 := { p.ch3 with sample := 0 } }
        else if p.power = v.getLsbD 7 then p else u) ∧
     (p.power = true →
      (a = 0xFF10 → u = { p with
        sweep := { p.sweep with nr10 := BitVec.ofNat 7 (v.toNat % 128) }
        ch1 := { p.ch1 with
          on := p.ch1.on && !(p.sweep.negated && p.sweep.nr10.getLsbD 3 && !v.getLsbD 3) } }) ∧
      (a = 0xFF11 → u = { p with
        ch1 := { p.ch1 with duty := BitVec.ofNat 2 (v.toNat / 64), length := 64 - v.toNat % 64 } }) ∧
      (a = 0xFF16 → u = { p with
        ch2 := { p.ch2 with duty := BitVec.ofNat 2 (v.toNat / 64), length := 64 - v.toNat % 64 } }) ∧
      (a = 0xFF1B → u = { p with ch3 := { p.ch3 with length := 256 - v.toNat } }) ∧
      (a = 0xFF20 → u = { p with ch4 := { p.ch4 with length := 64 - v.toNat % 64 } }) ∧
      (a = 0xFF12 → u = { p with ch1 := { p.ch1 with envelope := v, on := p.ch1.on && dac } }) ∧
      (a = 0xFF17 → u = { p with ch2 := { p.ch2 with envelope := v, on := p.ch2.on && dac } }) ∧
      (a = 0xFF21 → u = { p with ch4 := { p.ch4 with envelope := v, on := p.ch4.on && dac } }) ∧
      (a = 0xFF13 → u = { p with ch1 := { p.ch1 with period := low p.ch1.period } }) ∧
      (a = 0xFF18 → u = { p with ch2 := { p.ch2 with period := low p.ch2.period } }) ∧
      (a = 0xFF1D → u = { p with ch3 := { p.ch3 with period := low p.ch3.period } }) ∧
      (a = 0xFF1A → u = { p with
        ch3 := { p.ch3 with dacOn := v.getLsbD 7, on := p.ch3.on && v.getLsbD 7 } }) ∧
      (a = 0xFF1C → u = { p with ch3 := { p.ch3 with level := BitVec.ofNat 2 (v.toNat / 32 % 4) } }) ∧
      (a = 0xFF22 → u = { p with ch4 := { p.ch4 with control := v } }) ∧
      (a = 0xFF24 → u = { p with nr50 := v }) ∧
      (a = 0xFF25 → u = { p with nr51 := v }) ∧
      (v.getLsbD 7 = false →
        (a = 0xFF14 → u = { p with ch1 := { p.ch1 with
          lenEn := v.getLsbD 6, period := high p.ch1.period
          length := p.ch1.length - extra p.ch1.lenEn p.ch1.length
          on := stays p.ch1.lenEn p.ch1.on p.ch1.length } }) ∧
        (a = 0xFF19 → u = { p with ch2 := { p.ch2 with
          lenEn := v.getLsbD 6, period := high p.ch2.period
          length := p.ch2.length - extra p.ch2.lenEn p.ch2.length
          on := stays p.ch2.lenEn p.ch2.on p.ch2.length } }) ∧
        (a = 0xFF1E → u = { p with ch3 := { p.ch3 with
          lenEn := v.getLsbD 6, period := high p.ch3.period
          length := p.ch3.length - extra p.ch3.lenEn p.ch3.length
          on := stays p.ch3.lenEn p.ch3.on p.ch3.length } }) ∧
        (a = 0xFF23 → u = { p with ch4 := { p.ch4 with
          lenEn := v.getLsbD 6
          length := p.ch4.length - extra p.ch4.lenEn p.ch4.length
          on := stays p.ch4.lenEn p.ch4.on p.ch4.length } })))) ∧
    ∀ m : Mbc3, 0xA000 ≤ a.toNat → a.toNat < 0xC000 → s.cart.mapper = .mbc3 m → m.ramEnable = true →
      m.hasRtc = true →
      let stores (rtc : Rtc) (sub : Nat) : Prop :=
        s.storeByte a v = { s with cart := { s.cart with mapper := .mbc3 { m with rtc := rtc, sub := sub } } }
      (m.select = 0x08 → stores { m.rtc with sec := BitVec.ofNat 6 (v.toNat % 64) } 0) ∧
      (m.select = 0x09 → stores { m.rtc with min := BitVec.ofNat 6 (v.toNat % 64) } m.sub) ∧
      (m.select = 0x0A → stores { m.rtc with hour := BitVec.ofNat 5 (v.toNat % 32) } m.sub) ∧
      (m.select = 0x0B →
        stores { m.rtc with day := BitVec.ofNat 9 (m.rtc.day.toNat / 256 * 256 + v.toNat) } m.sub) ∧
      (m.select = 0x0C → stores
        { m.rtc with
          day := BitVec.ofNat 9 (v.toNat % 2 * 256 + m.rtc.day.toNat % 256)
          halt := v.getLsbD 6
          carry := v.getLsbD 7 } m.sub)

/-- Rules R143, R145, R153, R158, R159: what a CPU read of each region gives while no OAM-DMA transfer
runs: ROM through the mapper, VRAM and OAM behind their gates, cartridge RAM as `CartridgeBanks` says,
WRAM and its echo, HRAM, IE; and rules
R43-R92: what each I/O register reads, its unused bits as ones and write-only ones by the masks of R89,
wave RAM a drawn value while channel 3 is on (R645). P1 is in `JoypadLines`, unmapped addresses are in
`IgnoredStores`. That bit 1 of SC reads 1 in CGB mode too is the model's choice (log 7). -/
def Obligations.MemoryMap : Prop :=
  ∀ (s : State) (a : Word), s.dma.active = false →
    (a.toNat < 0x4000 → s.busRead a = .value (Store.read s.mem.rom (s.cart.lowBank * 0x4000 + a.toNat))) ∧
    (0x4000 ≤ a.toNat → a.toNat < 0x8000 → s.busRead a =
      .value (Store.read s.mem.rom (s.cart.highBank * 0x4000 + (a.toNat - 0x4000)))) ∧
    (0x8000 ≤ a.toNat → a.toNat < 0xA000 →
      (s.enable.ppu && s.ppu.lcdOn && s.ppu.mode == .transfer) = false →
      s.busRead a = .value (Store.read s.mem.vram (a.toNat - 0x8000))) ∧
    (0xA000 ≤ a.toNat → a.toNat < 0xC000 → s.busRead a = .value (cartRamRead s.cart s.mem a)) ∧
    (0xC000 ≤ a.toNat → a.toNat < 0xD000 →
      s.busRead a = .value (Store.read s.mem.wram (a.toNat - 0xC000))) ∧
    (0xD000 ≤ a.toNat → a.toNat < 0xE000 → s.busRead a = .value (Store.read s.mem.wram
      ((if s.model = .cgb ∧ s.svbk ≠ 0 then s.svbk.toNat else 1) * 0x1000 + (a.toNat - 0xD000)))) ∧
    (0xE000 ≤ a.toNat → a.toNat < 0xFE00 → s.busRead a = s.busRead (a - 0x2000)) ∧
    (0xFE00 ≤ a.toNat → a.toNat < 0xFEA0 →
      (s.enable.ppu && s.ppu.lcdOn && (s.ppu.mode == .oamScan || s.ppu.mode == .transfer)) = false →
      s.busRead a = .value (Store.read s.mem.oam (a.toNat - 0xFE00))) ∧
    (0xFF80 ≤ a.toNat → a.toNat < 0xFFFF →
      s.busRead a = .value (Store.read s.mem.hram (a.toNat - 0xFF80))) ∧
    (a = 0xFFFF → s.busRead a = .value s.ints.ie) ∧
    (0xFF30 ≤ a.toNat → a.toNat ≤ 0xFF3F → s.busRead a =
      if s.apu.ch3.on then .drawn else .value (Store.read s.mem.waveRam (a.toNat - 0xFF30))) ∧
    (a = 0xFF70 → s.busRead a =
      .value (BitVec.ofNat 8 (if s.model = .cgb then 0xF8 + s.svbk.toNat else 0xFF))) ∧
    let mode : Nat := match s.ppu.mode with
      | .hblank => 0
      | .vblank => 1
      | .oamScan => 2
      | .transfer => 3
    ∀ r ∈ ([
      (0xFF01, s.serial.sb.toNat),
      (0xFF02, 0x7E + 128 * s.serial.active.toNat + s.serial.internal.toNat),
      (0xFF04, s.timer.sysclk.toNat / 256), (0xFF05, s.timer.tima.toNat), (0xFF06, s.timer.tma.toNat),
      (0xFF07, 0xF8 + s.timer.tac.toNat), (0xFF0F, 0xE0 + s.ints.iflag.toNat),
      (0xFF10, 0x80 + s.apu.sweep.nr10.toNat), (0xFF11, 64 * s.apu.ch1.duty.toNat + 0x3F),
      (0xFF12, s.apu.ch1.envelope.toNat), (0xFF13, 0xFF), (0xFF14, 0xBF + 64 * s.apu.ch1.lenEn.toNat),
      (0xFF16, 64 * s.apu.ch2.duty.toNat + 0x3F), (0xFF17, s.apu.ch2.envelope.toNat), (0xFF18, 0xFF),
      (0xFF19, 0xBF + 64 * s.apu.ch2.lenEn.toNat), (0xFF1A, 128 * s.apu.ch3.dacOn.toNat + 0x7F),
      (0xFF1B, 0xFF), (0xFF1C, 0x9F + 32 * s.apu.ch3.level.toNat), (0xFF1D, 0xFF),
      (0xFF1E, 0xBF + 64 * s.apu.ch3.lenEn.toNat), (0xFF20, 0xFF), (0xFF21, s.apu.ch4.envelope.toNat),
      (0xFF22, s.apu.ch4.control.toNat), (0xFF23, 0xBF + 64 * s.apu.ch4.lenEn.toNat),
      (0xFF24, s.apu.nr50.toNat), (0xFF25, s.apu.nr51.toNat),
      (0xFF26, 128 * s.apu.power.toNat + 0x70 + 8 * s.apu.ch4.on.toNat + 4 * s.apu.ch3.on.toNat +
        2 * s.apu.ch2.on.toNat + s.apu.ch1.on.toNat),
      (0xFF40, s.ppu.lcdc.toNat),
      (0xFF41, 128 + 8 * s.ppu.statSelect.toNat + 4 * s.ppu.lycMatch.toNat + mode),
      (0xFF42, s.ppu.scy.toNat), (0xFF43, s.ppu.scx.toNat), (0xFF44, s.ppu.ly), (0xFF45, s.ppu.lyc.toNat),
      (0xFF46, s.dma.reg.toNat), (0xFF47, s.ppu.bgp.toNat), (0xFF48, s.ppu.obp0.toNat),
      (0xFF49, s.ppu.obp1.toNat), (0xFF4A, s.ppu.wy.toNat), (0xFF4B, s.ppu.wx.toNat)] :
        List (Word × Nat)),
      s.busRead r.1 = .value (BitVec.ofNat 8 r.2)

/-! ## Devices -/

/-- Rules R511, R515, R516: a write to 0xFF46 starts a transfer when the unit is enabled; while one is
active a CPU read below 0xFF00 gives a drawn value and a CPU write there is refused, and from 0xFF00 up
every access is as with the unit idle. -/
def Obligations.DmaBusGate : Prop :=
  (∀ (s : State) (v : Byte), (s.storeByte 0xFF46 v).dma =
    if s.enable.dma then { reg := v, active := true, source := wordOf v 0, index := 0, sub := 0 }
    else { s.dma with reg := v }) ∧
  ∀ (s : State) (a : Word) (v : Byte), s.dma.active = true →
    (a.toNat < 0xFF00 → s.busRead a = .drawn ∧ s.writeRefusal a v = some (.dmaBusConflict a)) ∧
    (0xFF00 ≤ a.toNat →
      s.busRead a = ({ s with dma := { s.dma with active := false } } : State).busRead a) ∧
    (0xFF00 ≤ a.toNat → s.writeRefusal a v =
      ({ s with dma := { s.dma with active := false } } : State).writeRefusal a v)

/-- Rule R513: after k machine cycles of a transfer OAM holds its first k source bytes and is
otherwise unchanged; the transfer ends with the 160th, and nothing else of the machine moved. -/
def Obligations.DmaCopiesPrefix : Prop :=
  ∀ (s : State) (k : Nat), s.mem.wf = true → s.dma.active = true → s.dma.index = 0 → s.dma.sub = 0 →
    k ≤ 160 →
    let t := repeatTick State.dmaTick (4 * k) s
    (∀ j, j < k → Store.read t.mem.oam j = s.dmaRead (s.dma.source + BitVec.ofNat 16 j)) ∧
    (∀ j, k ≤ j → Store.read t.mem.oam j = Store.read s.mem.oam j) ∧
    t = { s with mem := { s.mem with oam := t.mem.oam }
                 dma := { s.dma with index := k, sub := 0, active := decide (k < 160) } }

/-- Rules R460, R461, R469: with the timer on and no overflow on the way, TIMA counts exactly the wraps
of the divider modulo the period: n ticks add (sysclk mod P + n) / P, and none requests an
interrupt. -/
def Obligations.TimerCounts : Prop :=
  ∀ (t : Timer) (n : Nat), t.legal = true → t.reload = 0 → t.tac.getLsbD 2 = true →
    t.tima.toNat + (t.sysclk.toNat % timerPeriod t.tac + n) / timerPeriod t.tac ≤ 255 →
    let u := repeatTick (fun x => x.tick.1) n t
    u.tima.toNat = t.tima.toNat + (t.sysclk.toNat % timerPeriod t.tac + n) / timerPeriod t.tac ∧
    u.sysclk = t.sysclk + BitVec.ofNat 16 n ∧ u.tma = t.tma ∧ u.tac = t.tac ∧ u.reload = 0 ∧
    u.tick.2 = false

/-- Rules R460-R462: when TIMA overflows it reads 0x00 for four master cycles, then TMA, and the Timer
interrupt is requested in the master cycle of the reload and in no other of the five. -/
def Obligations.TimerOverflow : Prop :=
  ∀ t : Timer, t.legal = true → t.reload = 0 → t.tac.getLsbD 2 = true → t.tima = 0xFF →
    (t.sysclk.toNat + 1) % timerPeriod t.tac = 0 →
    let after (n : Nat) := repeatTick (fun x => x.tick.1) n t
    (∀ n, n < 4 → (after (n + 1)).tima = 0x00 ∧ (after n).tick.2 = false) ∧
    (after 4).tick.2 = true ∧ (after 5).tima = t.tma ∧ (after 5).reload = 0

/-- Rules R463-R466, R468: the timer's registers written: DIV and TAC also run the edge check, which
may count TIMA on when the timer is enabled; TIMA cancels a pending reload; TMA is stored. That a TIMA
write cancels the reload with the timer disabled too is the model's choice (log 9). -/
def Obligations.TimerWrites : Prop :=
  ∀ (s : State) (v : Byte), s.timer.legal = true →
    let t := s.timer
    let counts (fell : Bool) (u : Timer) : Prop :=
      if s.enable.timer && fell then
        u.tima = t.tima + 1 ∧ u.reload = (if t.tima = 0xFF then 4 else t.reload)
      else u.tima = t.tima ∧ u.reload = t.reload
    (let u := (s.storeByte 0xFF04 v).timer
     u.sysclk = 0 ∧ u.tac = t.tac ∧ u.tma = t.tma ∧ u.inPrev = false ∧
       counts (t.tac.getLsbD 2 && decide (timerPeriod t.tac ≤ 2 * (t.sysclk.toNat % timerPeriod t.tac))) u) ∧
    (s.storeByte 0xFF05 v).timer = { t with tima := v, reload := 0 } ∧
    (s.storeByte 0xFF06 v).timer = { t with tma := v } ∧
    (let u := (s.storeByte 0xFF07 v).timer
     u.tac = v.extractLsb' 0 3 ∧ u.sysclk = t.sysclk ∧ u.tma = t.tma ∧
       u.inPrev = (v.getLsbD 2 && decide (timerPeriod u.tac ≤ 2 * (t.sysclk.toNat % timerPeriod u.tac))) ∧
       counts (t.inPrev && !u.inPrev) u)

/-- Rules R490-R492, R495: an internal-clock transfer: after k bit times of 512 master cycles SB has its
top k bits shifted out and the peer's answers shifted in, ones with no peer; the eighth ends the transfer
and requests the interrupt, and no earlier tick does. With the external clock a bit is shifted exactly at
the master cycles where the peer supplies an edge; with no transfer active nothing happens. The peer's
answers and edges stand in lists (log 6). -/
def Obligations.SerialTransfer : Prop :=
  (∀ (x : Serial) (now k : Nat), x.active = true → x.internal = true → x.bits = 0 → x.clock = 0 →
    k ≤ 8 →
    let after (n : Nat) := repeatTick (fun y => (Serial.tick now y).1) n x
    (after (512 * k)).sb.toNat = shiftedIn k x.peerBits x.sb.toNat ∧
    (x.peerBits = [] → (after (512 * k)).sb.toNat = (x.sb.toNat * 2 ^ k + (2 ^ k - 1)) % 256) ∧
    (after (512 * k)).peerBits = x.peerBits.drop k ∧
    (0 < k → (after (512 * k)).out = x.sb.getLsbD (8 - k)) ∧
    (after (512 * k)).active = decide (k < 8) ∧ (after (512 * k)).clock = 0 ∧
    (after (512 * k)).bits = k % 8 ∧
    (∀ n, n < 4096 → (Serial.tick now (after n)).2 = decide (n = 4095))) ∧
  (∀ (x : Serial) (now : Nat), x.active = true → x.internal = false → x.bits < 8 →
    (now ∉ x.peerEdges → x.tick now = (x, false)) ∧
    (now ∈ x.peerEdges → x.tick now =
      ({ x with
        sb := BitVec.ofNat 8 (shiftedIn 1 x.peerBits x.sb.toNat)
        out := x.sb.getLsbD 7
        peerBits := x.peerBits.tail
        bits := (x.bits + 1) % 8
        active := decide (x.bits ≠ 7) }, decide (x.bits = 7)))) ∧
  ∀ (x : Serial) (now : Nat), x.active = false → x.tick now = (x, false)

/-- Rules R500, R501: P1 reads its select bits over four lines, a line 0 when a selected button of its
pair is pressed; at the end of a step the Joypad interrupt is requested when a line fell since the last
one. -/
def Obligations.JoypadLines : Prop :=
  ∀ s : State,
    let b := s.joypad.buttonsAt s.cycles
    let dpad := !s.joypad.select.getLsbD 0
    let action := !s.joypad.select.getLsbD 1
    (∃ v, s.busRead 0xFF00 = .value v ∧ v.getLsbD 7 = true ∧ v.getLsbD 6 = true ∧
      v.getLsbD 5 = s.joypad.select.getLsbD 1 ∧ v.getLsbD 4 = s.joypad.select.getLsbD 0 ∧
      v.getLsbD 3 = !(dpad && b.down || action && b.start) ∧
      v.getLsbD 2 = !(dpad && b.up || action && b.select) ∧
      v.getLsbD 1 = !(dpad && b.left || action && b.b) ∧
      v.getLsbD 0 = !(dpad && b.right || action && b.a) ∧
      ∀ frozen, (endPhase frozen s).joypad.prev = v.extractLsb' 0 4 ∧
        ((endPhase frozen s).ints.iflag.getLsbD 4 = true ↔ s.ints.iflag.getLsbD 4 = true ∨
          ∃ k, k < 4 ∧ s.joypad.prev.getLsbD k = true ∧ v.getLsbD k = false) ∧
        ∀ j, j < 4 → (endPhase frozen s).ints.iflag.getLsbD j = s.ints.iflag.getLsbD j)

/-- Rules R530-R533, R536, R538, R539: every tick of a running PPU moves on by one dot of a frame of
70224; the length of mode 3 is latched at dot 80 of a visible line, 172 and the penalty, which the model
holds as a table (log 4), and the mode is the one the line, the dot and that length give; VBlank is requested exactly on reaching line 144; the STAT line takes its condition's new value
and STAT is requested exactly on a rising edge. Rules R545-R549, R553-R557: a line is composed exactly
on the change from mode 3 to mode 0, into its own row, each pixel from the tile maps, the window and the
sprite drawn there (`SpritePriority`); the window line counts the composed lines that show the window.
In CGB mode the row is 480 drawn bytes, in the model's order (log 19). -/
def Obligations.PpuFrame : Prop :=
  ∀ (model : ConsoleMode) (draws : Nat) (vram oam : Store) (p : Ppu), p.legal = true → p.lcdOn = true →
    let r := p.tick model draws vram oam
    let q := r.ppu
    q.ly * 456 + q.dot = (p.ly * 456 + p.dot + 1) % 70224 ∧ q.dot < 456 ∧
    (r.vblank = true ↔ q.ly * 456 + q.dot = 144 * 456) ∧
    q.frameComplete = (p.frameComplete || r.vblank) ∧
    q.lycMatch = decide (q.ly = p.lyc.toNat) ∧
    q.mode3Len = (if q.ly < 144 ∧ q.dot = 80 then
      172 + (match p.penalties.find? (fun e => e.1 == ⟨q.ly, p.scx, p.wx, p.wy, p.lcdc, oam⟩) with
        | none => 0
        | some e => min e.2 203) else p.mode3Len) ∧
    (q.mode = .vblank ↔ 144 ≤ q.ly) ∧ (q.mode = .oamScan ↔ q.ly < 144 ∧ q.dot < 80) ∧
    (q.mode = .transfer ↔ q.ly < 144 ∧ 80 ≤ q.dot ∧ q.dot < 80 + q.mode3Len) ∧
    (q.mode = .hblank ↔ q.ly < 144 ∧ 80 + q.mode3Len ≤ q.dot) ∧
    (q.statLine = true ↔ (p.statSelect.getLsbD 3 = true ∧ q.ly = p.lyc.toNat) ∨
      (p.statSelect.getLsbD 2 = true ∧ q.mode = .oamScan) ∨
      (p.statSelect.getLsbD 1 = true ∧ q.mode = .vblank) ∨
      (p.statSelect.getLsbD 0 = true ∧ q.mode = .hblank)) ∧
    (r.stat = true ↔ p.statLine = false ∧ q.statLine = true) ∧
    (if p.mode = .transfer ∧ q.mode = .hblank then
      let line : Ppu := { p with windowYHit := p.windowYHit || decide (q.ly = p.wy.toNat) }
      q.framebuffer[q.ly]? = some (composedRow model draws vram oam line q.ly) ∧
      (∀ k, k ≠ q.ly → q.framebuffer[k]? = p.framebuffer[k]?) ∧
      q.windowYHit = line.windowYHit ∧
      q.windowLine = p.windowLine + (if p.lcdc.getLsbD 0 = true ∧ p.lcdc.getLsbD 5 = true ∧
        line.windowYHit = true ∧ p.wx.toNat ≤ 166 then 1 else 0) ∧
      r.drawn = (if model = .cgb then 480 else 0)
    else
      q.framebuffer = p.framebuffer ∧ r.drawn = 0 ∧
      q.windowYHit = (p.windowYHit && decide (q.ly * 456 + q.dot ≠ 0)) ∧
      q.windowLine = if q.ly * 456 + q.dot = 0 then 0 else p.windowLine)

/-- Rules R541, R542, R544: an LCDC write that clears bit 7 blanks the PPU, one that sets it restarts
it at line 0, the window's line counter and flag
kept, the model's reading (log 24); while the LCD is off a tick does nothing; with the PPU disabled no device phase changes
the PPU, so not the framebuffer, or requests VBlank or STAT. -/
def Obligations.PpuOff : Prop :=
  (∀ (s : State) (v : Byte), (s.storeByte 0xFF40 v).ppu =
    if s.ppu.lcdOn = true ∧ v.getLsbD 7 = false then
      { s.ppu with lcdc := v, lcdOn := false, ly := 0, dot := 0, mode := .hblank, statLine := false }
    else if s.ppu.lcdOn = false ∧ v.getLsbD 7 = true then
      { s.ppu with lcdc := v, lcdOn := true, ly := 0, dot := 0, mode := .oamScan, mode3Len := 172 }
    else { s.ppu with lcdc := v }) ∧
  (∀ (model : ConsoleMode) (draws : Nat) (vram oam : Store) (p : Ppu), p.lcdOn = false →
    p.tick model draws vram oam = { ppu := p, vblank := false, stat := false, drawn := 0 }) ∧
  ∀ (s : State) (frozen : Bool) (n : Nat), s.enable.ppu = false →
    (devicePhase frozen n s).ppu = s.ppu ∧
      (devicePhase frozen n s).ints.iflag.getLsbD 0 = s.ints.iflag.getLsbD 0 ∧
      (devicePhase frozen n s).ints.iflag.getLsbD 1 = s.ints.iflag.getLsbD 1

/-- Rule R550: with sprites on (LCDC bit 1), line y selects the first ten OAM entries whose rows take it
in, in OAM order. Rule R551: the colour index of a sprite's pixel, from its row and column under the
flips. Rule R552: of the selected sprites that cover a column with an opaque pixel the one drawn has the
smallest X, and of equals the first in OAM order; none is drawn when there is none. -/
def Obligations.SpritePriority : Prop :=
  (∀ (p : Ppu) (oam : Store) (y : Nat),
    let height : Int := if p.lcdc.getLsbD 2 then 16 else 8
    let onLine (k : Nat) : Bool :=
      decide (((Store.read oam (4 * k)).toNat : Int) - 16 ≤ y ∧
        (y : Int) < (Store.read oam (4 * k)).toNat - 16 + height)
    (p.selectSprites oam y).Pairwise (fun a b => a.index < b.index) ∧
    ∀ s : Sprite, s ∈ p.selectSprites oam y ↔ p.lcdc.getLsbD 1 = true ∧ ∃ k, k < 40 ∧ onLine k = true ∧
      ((List.range k).filter onLine).length < 10 ∧
      s = ⟨k, (Store.read oam (4 * k)).toNat, (Store.read oam (4 * k + 1)).toNat,
        Store.read oam (4 * k + 2), Store.read oam (4 * k + 3)⟩) ∧
  (∀ (p : Ppu) (vram : Store) (s : Sprite) (x y r c : Nat),
    let height := if p.lcdc.getLsbD 2 then 16 else 8
    r < height → c < 8 → y + 16 = s.y + r → x + 8 = s.x + c →
    s.covers x = true ∧
    let row := if s.attr.getLsbD 6 then height - 1 - r else r
    let column := if s.attr.getLsbD 5 then 7 - c else c
    let tile := if p.lcdc.getLsbD 2 then s.tile.toNat / 2 * 2 + row / 8 else s.tile.toNat
    p.spriteIndex vram s x y = indexOfPlanes vram (16 * tile) (row % 8) column) ∧
  (∀ (s : Sprite) (x : Nat), s.covers x = true ↔ s.x ≤ x + 8 ∧ x < s.x) ∧
  ∀ (p : Ppu) (vram : Store) (objs : List Sprite) (x y : Nat),
    objs.Pairwise (fun a b => a.index < b.index) →
    let shows := fun s : Sprite => s.covers x = true ∧ p.spriteIndex vram s x y ≠ 0
    match p.spritePixel vram objs x y with
    | none => ∀ s ∈ objs, ¬ shows s
    | some b => b ∈ objs ∧ shows b ∧
        ∀ s ∈ objs, shows s → b.x < s.x ∨ (b.x = s.x ∧ b.index ≤ s.index)

/-- Rules R600-R605, R613, R614, R620-R623, R640, R641, R650, R651, R660: a tick runs the frame sequencer and
the channels as `apuAfter` says, then appends a sample when the accumulator runs over; a side of the mixer
is the panned sum of the four amplitudes times its volume plus one, at most 480. Rule R670: n ticks append
exactly (acc + n * rate) / 4194304 samples. -/
def Obligations.ApuSamples : Prop :=
  ∀ (a : Apu) (ram : Store) (n : Nat), a.legal = true →
    a.left = sideLevel a (a.nr51.toNat / 16) (a.nr50.toNat / 16 % 8) ∧
    a.right = sideLevel a (a.nr51.toNat % 16) (a.nr50.toNat % 8) ∧
    a.left ≤ 480 ∧ a.right ≤ 480 ∧
    (let next := apuAfter ram a
     Apu.tick ram a =
      if a.sampleAcc + a.sampleRate < 4194304 then
        { next with sampleAcc := a.sampleAcc + a.sampleRate }
      else
        { next with
          sampleAcc := a.sampleAcc + a.sampleRate - 4194304
          samples := a.samples ++ [(next.left, next.right)] }) ∧
    let b := repeatTick (Apu.tick ram) n a
    b.samples.length = a.samples.length + (a.sampleAcc + n * a.sampleRate) / 4194304 ∧
    b.sampleAcc = (a.sampleAcc + n * a.sampleRate) % 4194304 ∧
    b.samples.take a.samples.length = a.samples

/-- Rules R87, R89, R602, R681: clearing NR52 bit 7 silences the four channels and clears every stored
field, the length counters in CGB mode alone; while off the registers read their masks and a write does
nothing but load a length outside CGB mode. -/
def Obligations.ApuPowerOff : Prop :=
  ∀ (s : State) (v : Byte), s.apu.power = true → v.getLsbD 7 = false →
    let t := s.storeByte 0xFF26 v
    t.apu.power = false ∧ t.apu.ch1.on = false ∧ t.apu.ch2.on = false ∧ t.apu.ch3.on = false ∧
    t.apu.ch4.on = false ∧
    (∀ r, r ∈ [(0x10, 0x80), (0x11, 0x3F), (0x12, 0x00), (0x13, 0xFF), (0x14, 0xBF),
        (0x16, 0x3F), (0x17, 0x00), (0x18, 0xFF), (0x19, 0xBF), (0x1A, 0x7F), (0x1B, 0xFF),
        (0x1C, 0x9F), (0x1D, 0xFF), (0x1E, 0xBF), (0x20, 0xFF), (0x21, 0x00), (0x22, 0x00),
        (0x23, 0xBF), (0x24, 0x00), (0x25, 0x00), (0x26, 0x70)] →
      t.busRead (0xFF00 + BitVec.ofNat 16 r.1) = .value (BitVec.ofNat 8 r.2)) ∧
    (if s.model = .cgb then
      t.apu.ch1.length = 0 ∧ t.apu.ch2.length = 0 ∧ t.apu.ch3.length = 0 ∧ t.apu.ch4.length = 0
    else
      t.apu.ch1.length = s.apu.ch1.length ∧ t.apu.ch2.length = s.apu.ch2.length ∧
        t.apu.ch3.length = s.apu.ch3.length ∧ t.apu.ch4.length = s.apu.ch4.length) ∧
    ∀ (a : Word) (w : Byte), 0xFF10 ≤ a.toNat → a.toNat ≤ 0xFF25 →
      (t.storeByte a w).apu =
        if s.model ≠ .cgb ∧ a = 0xFF11 then
          { t.apu with ch1 := { t.apu.ch1 with length := 64 - w.toNat % 64 } }
        else if s.model ≠ .cgb ∧ a = 0xFF16 then
          { t.apu with ch2 := { t.apu.ch2 with length := 64 - w.toNat % 64 } }
        else if s.model ≠ .cgb ∧ a = 0xFF1B then
          { t.apu with ch3 := { t.apu.ch3 with length := 256 - w.toNat } }
        else if s.model ≠ .cgb ∧ a = 0xFF20 then
          { t.apu with ch4 := { t.apu.ch4 with length := 64 - w.toNat % 64 } }
        else t.apu

/-- Rules R607, R608, R611-R613: a trigger turns a channel on exactly when its DAC is on, and leaves a
length that is not 0: the old one, less the extra clock of a length enable turned on before a step that
clocks no lengths, or the full one, less one in that case; channel 1 stays off if its first sweep
calculation overflows. It starts the sweep unit anew and reloads each channel's timer, volume and envelope
timer; nothing else of the APU changes. -/
def Obligations.ApuTrigger : Prop :=
  ∀ (s : State) (v : Byte), s.apu.power = true → v.getLsbD 7 = true →
    let odd := s.apu.fsStep % 2 = 1
    let len (full old : Nat) (oldEn : Bool) : Nat :=
      let l := if oldEn = false ∧ v.getLsbD 6 = true ∧ odd then old - 1 else old
      if l = 0 then (if v.getLsbD 6 = true ∧ odd then full - 1 else full) else l
    (let c := (s.storeByte 0xFF14 v).apu.ch1
     let n := s.apu.sweep.nr10.toNat
     c.on = (decide (s.apu.ch1.envelope.toNat / 8 ≠ 0) &&
         (decide (n % 8 = 0) || decide (n / 8 % 2 = 1) ||
           decide (c.period.toNat + c.period.toNat / 2 ^ (n % 8) ≤ 2047))) ∧
       c.length = len 64 s.apu.ch1.length s.apu.ch1.lenEn ∧ c.lenEn = v.getLsbD 6 ∧
       c.volume = s.apu.ch1.envelope.toNat / 16 ∧ c.envTimer = s.apu.ch1.envelope.toNat % 8 ∧
       c.period.toNat = v.toNat % 8 * 256 + s.apu.ch1.period.toNat % 256 ∧
       c.freqTimer = (2048 - c.period.toNat) * 4 ∧
       (s.storeByte 0xFF14 v).apu = { s.apu with
        ch1 := { c with
          duty := s.apu.ch1.duty, envelope := s.apu.ch1.envelope, dutyPos := s.apu.ch1.dutyPos }
        sweep := { s.apu.sweep with
          shadow := c.period
          timer := if n / 16 = 0 then 8 else n / 16
          enabled := decide (n / 16 ≠ 0 ∨ n % 8 ≠ 0)
          negated := decide (n % 8 ≠ 0 ∧ n / 8 % 2 = 1) } }) ∧
    (let c := (s.storeByte 0xFF19 v).apu.ch2
     c.on = decide (s.apu.ch2.envelope.toNat / 8 ≠ 0) ∧
       c.length = len 64 s.apu.ch2.length s.apu.ch2.lenEn ∧ c.lenEn = v.getLsbD 6 ∧
       c.volume = s.apu.ch2.envelope.toNat / 16 ∧ c.envTimer = s.apu.ch2.envelope.toNat % 8 ∧
       c.period.toNat = v.toNat % 8 * 256 + s.apu.ch2.period.toNat % 256 ∧
       c.freqTimer = (2048 - c.period.toNat) * 4 ∧
       (s.storeByte 0xFF19 v).apu = { s.apu with
        ch2 := { c with
          duty := s.apu.ch2.duty, envelope := s.apu.ch2.envelope, dutyPos := s.apu.ch2.dutyPos } }) ∧
    (let c := (s.storeByte 0xFF1E v).apu.ch3
     c.on = s.apu.ch3.dacOn ∧ c.length = len 256 s.apu.ch3.length s.apu.ch3.lenEn ∧
       c.lenEn = v.getLsbD 6 ∧ c.pos = 0 ∧
       c.period.toNat = v.toNat % 8 * 256 + s.apu.ch3.period.toNat % 256 ∧
       c.freqTimer = (2048 - c.period.toNat) * 2 ∧
       (s.storeByte 0xFF1E v).apu = { s.apu with
        ch3 := { c with
          dacOn := s.apu.ch3.dacOn, level := s.apu.ch3.level, sample := s.apu.ch3.sample } }) ∧
    (let c := (s.storeByte 0xFF23 v).apu.ch4
     c.on = decide (s.apu.ch4.envelope.toNat / 8 ≠ 0) ∧
       c.length = len 64 s.apu.ch4.length s.apu.ch4.lenEn ∧ c.lenEn = v.getLsbD 6 ∧
       c.volume = s.apu.ch4.envelope.toNat / 16 ∧ c.envTimer = s.apu.ch4.envelope.toNat % 8 ∧
       c.lfsr = 0x7FFF ∧ c.freqTimer = noiseReload s.apu.ch4.control ∧
       (s.storeByte 0xFF23 v).apu = { s.apu with
        ch4 := { c with envelope := s.apu.ch4.envelope, control := s.apu.ch4.control } })

/-! ## Cartridge, loading and the host -/

/-- Rules R180-R183, R186, R189, R190, R196-R198: the mapper control writes: RAM enable on a low nibble
of 0xA, and the bank registers, of which MBC1's, MBC2's and MBC3's turn 0 into 1. -/
def Obligations.MapperControl : Prop :=
  ∀ (s : State) (a : Word) (v : Byte), a.toNat < 0x8000 →
    let after := (s.storeByte a v).cart.mapper
    let some1 (n : Nat) := if n = 0 then 1 else n
    (∀ m, s.cart.mapper = .mbc1 m → ∃ m', after = .mbc1 m' ∧
      m'.ramEnable = (if a.toNat < 0x2000 then decide (v.toNat % 16 = 10) else m.ramEnable) ∧
      m'.bank1.toNat = (if a.toNat / 0x2000 = 1 then some1 (v.toNat % 32) else m.bank1.toNat) ∧
      m'.bank2.toNat = (if a.toNat / 0x2000 = 2 then v.toNat % 4 else m.bank2.toNat) ∧
      m'.mode1 = (if a.toNat / 0x2000 = 3 then decide (v.toNat % 2 = 1) else m.mode1)) ∧
    (∀ m, s.cart.mapper = .mbc2 m → ∃ m', after = .mbc2 m' ∧
      m'.ramEnable = (if a.toNat < 0x4000 ∧ a.toNat / 256 % 2 = 0 then decide (v.toNat % 16 = 10)
        else m.ramEnable) ∧
      m'.romBank.toNat = (if a.toNat < 0x4000 ∧ a.toNat / 256 % 2 = 1 then some1 (v.toNat % 16)
        else m.romBank.toNat)) ∧
    (∀ m, s.cart.mapper = .mbc3 m → ∃ m', after = .mbc3 m' ∧
      m'.ramEnable = (if a.toNat < 0x2000 then decide (v.toNat % 16 = 10) else m.ramEnable) ∧
      m'.romBank.toNat = (if a.toNat / 0x2000 = 1 then some1 (v.toNat % 128) else m.romBank.toNat) ∧
      m'.select = (if a.toNat / 0x2000 = 2 then v else m.select) ∧
      m'.latched = (if a.toNat / 0x2000 = 3 ∧ v = 1 ∧ m.latchArmed = true then m.rtc else m.latched) ∧
      m'.latchArmed = (if a.toNat / 0x2000 = 3 then decide (v = 0) else m.latchArmed) ∧
      m'.rtc = m.rtc ∧ m'.sub = m.sub) ∧
    (∀ m, s.cart.mapper = .mbc5 m → ∃ m', after = .mbc5 m' ∧
      m'.ramEnable = (if a.toNat < 0x2000 then decide (v.toNat % 16 = 10) else m.ramEnable) ∧
      m'.romBank.toNat = (if a.toNat / 0x1000 = 2 then m.romBank.toNat / 256 * 256 + v.toNat
        else if a.toNat / 0x1000 = 3 then v.toNat % 2 * 256 + m.romBank.toNat % 256
        else m.romBank.toNat) ∧
      m'.ramBank.toNat = (if a.toNat / 0x2000 = 2 then (if m.rumble then v.toNat % 8 else v.toNat % 16)
        else m.ramBank.toNat)) ∧
    (s.cart.mapper = .none → after = .none)

/-- Rules R179, R184, R185, R187, R188, R191, R193, R195, R199-R201: the banks each mapper maps, and what a
CPU read of 0xA000-0xBFFF gives: a byte of the selected RAM bank, an MBC2 cell, a latched clock register,
or 0xFF. -/
def Obligations.CartridgeBanks : Prop :=
  ∀ (c : Cartridge) (mem : Memory) (a : Word), 0xA000 ≤ a.toNat → a.toNat < 0xC000 →
    let bank (n : Nat) : Byte :=
      if c.ramSize = 0 then 0xFF
      else Store.read mem.cartRam ((n % c.ramBanks * 0x2000 + (a.toNat - 0xA000)) % c.ramSize)
    match c.mapper with
    | .none => c.lowBank = 0 ∧ c.highBank = 1 ∧ cartRamRead c mem a = bank 0
    | .mbc1 m =>
      c.lowBank = (if m.mode1 then 32 * m.bank2.toNat % c.romBanks else 0) ∧
      c.highBank = (32 * m.bank2.toNat + m.bank1.toNat) % c.romBanks ∧
      cartRamRead c mem a =
        if m.ramEnable then bank (if m.mode1 then m.bank2.toNat else 0) else 0xFF
    | .mbc2 m =>
      c.lowBank = 0 ∧ c.highBank = m.romBank.toNat % c.romBanks ∧
      cartRamRead c mem a =
        if m.ramEnable then 0xF0 ||| Store.read mem.cartRam (a.toNat % 512) else 0xFF
    | .mbc3 m =>
      c.lowBank = 0 ∧ c.highBank = m.romBank.toNat % c.romBanks ∧
      (m.ramEnable = false → cartRamRead c mem a = 0xFF) ∧
      (m.ramEnable = true → m.select.toNat < 4 → cartRamRead c mem a = bank m.select.toNat) ∧
      (m.ramEnable = true → 4 ≤ m.select.toNat → (cartRamRead c mem a).toNat =
        if m.hasRtc ∧ m.select = 0x08 then m.latched.sec.toNat
        else if m.hasRtc ∧ m.select = 0x09 then m.latched.min.toNat
        else if m.hasRtc ∧ m.select = 0x0A then m.latched.hour.toNat
        else if m.hasRtc ∧ m.select = 0x0B then m.latched.day.toNat % 256
        else if m.hasRtc ∧ m.select = 0x0C then
          m.latched.day.toNat / 256 + 64 * m.latched.halt.toNat + 128 * m.latched.carry.toNat
        else 255)
    | .mbc5 m =>
      c.lowBank = 0 ∧ c.highBank = m.romBank.toNat % c.romBanks ∧
      cartRamRead c mem a = if m.ramEnable then bank m.ramBank.toNat else 0xFF

/-- Rule R194: a running clock counts master cycles; each second moves the time of day on by one, midnight
moves the day counter on, and the carry is set when that wraps and never cleared. A field out of range
wraps at its own width and carries nothing on; a halted clock stands still. -/
def Obligations.RtcCounts : Prop :=
  ∀ m : Mbc3,
    let t := m.rtc
    let q := m.clockTick
    (t.halt = true → q = m) ∧
    (t.halt = false → m.sub + 1 < 4194304 → q = { m with sub := m.sub + 1 }) ∧
    (t.halt = false → m.sub + 1 = 4194304 → ∃ u : Rtc, q = { m with sub := 0, rtc := u } ∧
      u.halt = false ∧
      (t.sec.toNat < 60 → t.min.toNat < 60 → t.hour.toNat < 24 →
        u.day.toNat * 86400 + u.hour.toNat * 3600 + u.min.toNat * 60 + u.sec.toNat =
          (t.day.toNat * 86400 + t.hour.toNat * 3600 + t.min.toNat * 60 + t.sec.toNat + 1) % (512 * 86400) ∧
        u.sec.toNat < 60 ∧ u.min.toNat < 60 ∧ u.hour.toNat < 24 ∧
        (u.carry = true ↔ t.carry = true ∨ t.day.toNat * 86400 + t.hour.toNat * 3600 + t.min.toNat * 60 +
          t.sec.toNat + 1 = 512 * 86400)) ∧
      (60 ≤ t.sec.toNat → u = { t with sec := t.sec + 1 }) ∧
      (t.sec.toNat = 59 → 60 ≤ t.min.toNat → u = { t with sec := 0, min := t.min + 1 }) ∧
      (t.sec.toNat = 59 → t.min.toNat = 59 → 24 ≤ t.hour.toNat →
        u = { t with sec := 0, min := 0, hour := t.hour + 1 }))

/-- Rules R175-R177, R703: the load checks in their order; a load that passes them all gives a
machine. That the RAM size code is checked for MBC2 too is the model's choice (log 16). -/
def Obligations.LoadChecks : Prop :=
  ∀ (rom : RomImage) (mode : ConsoleMode) (en : Enables) (p : LaunchParams),
    let romCode := (rom.header 0x148).toNat
    let ramCode := (rom.header 0x149).toNat
    let type := (rom.header 0x147).toNat
    let supported := [0x00, 0x01, 0x02, 0x03, 0x05, 0x06, 0x08, 0x09, 0x0F, 0x10, 0x11, 0x12, 0x13,
      0x19, 0x1A, 0x1B, 0x1C, 0x1D, 0x1E]
    if rom.length < 0x150 then load rom mode en p = .error (.loadError .truncated)
    else if 8 < romCode then load rom mode en p = .error (.loadError (.romSizeCode (rom.header 0x148)))
    else if rom.length ≠ 32768 * 2 ^ romCode then
      load rom mode en p = .error (.loadError .lengthMismatch)
    else if 5 < ramCode then load rom mode en p = .error (.loadError (.ramSizeCode (rom.header 0x149)))
    else if type ∉ supported then load rom mode en p = .error (.unsupportedMapper (rom.header 0x147))
    else ∃ s, load rom mode en p = .ok s ∧ s.cart.romBanks = 2 * 2 ^ romCode

/-- Rules R120, R693, R703: the CPU registers and the cycle counter of a loaded machine, by mode. -/
def Obligations.ResetRegisters : Prop :=
  ∀ (rom : RomImage) (mode : ConsoleMode) (en : Enables) (p : LaunchParams) (s : State),
    load rom mode en p = .ok s →
    (match mode with
      | .dmg => s.reg8 .a = 0x01 ∧ s.reg16 .bc = 0x0013 ∧ s.reg16 .de = 0x00D8 ∧ s.reg16 .hl = 0x014D ∧
          s.cpu.flags.toByte = (if rom.header 0x14D = 0 then 0x80 else 0xB0)
      | .sgb => s.reg8 .a = 0x01 ∧ s.reg16 .bc = 0x0014 ∧ s.reg16 .de = 0x0000 ∧ s.reg16 .hl = 0xC060 ∧
          s.cpu.flags.toByte = 0x00
      | .cgb => s.reg8 .a = 0x11 ∧ s.reg16 .bc = 0x0000 ∧ s.reg16 .de = 0xFF56 ∧ s.reg16 .hl = 0x000D ∧
          s.cpu.flags.toByte = 0x80) ∧
    s.cpu.sp = 0xFFFE ∧ s.cpu.pc = 0x0100 ∧ s.cpu.ime = false ∧ s.cpu.imeDelay = false ∧
    s.cpu.halted = false ∧ s.cpu.haltBug = false ∧ s.cpu.stopped = false ∧ s.fault = none ∧
    s.cycles = 0

/-- Rules R8, R121-R123, R178: a loaded machine is legal for every image, mode and launch parameter in
its range; rules R8, R123, R155, R202, R722: the ROM holds the image (log 15), and the mode, the enables,
what reset leaves open (the memories, the PPU phase, the divider and the MBC3 clock, log 22; bytes no cell
holds are kept, log 23) and every other launch parameter are as the host gives them; and `State.reset` is the machine a blank 32 KiB image
gives (the model's choice, log 3). -/
def Obligations.LoadedMachineLegal : Prop :=
  (∀ (rom : RomImage) (mode : ConsoleMode) (en : Enables) (p : LaunchParams) (s : State),
    p.sampleRate ≤ 4194304 → p.ppuLy < 154 → p.ppuDot < 456 → p.rtc.sub < 4194304 →
    load rom mode en p = .ok s →
    s.legal = true ∧
    (Store.wf rom.bytes = true → s.mem.rom = rom.bytes ∧
      ∀ a : Word, a.toNat < 0x8000 → s.busRead a = .value (Store.read rom.bytes a.toNat)) ∧
    s.model = mode ∧ s.enable = en ∧ s.version = p.version ∧ s.apu.sampleRate = p.sampleRate ∧
    s.ppu.palette = p.palette ∧ s.ppu.obp0 = p.obp0 ∧ s.ppu.obp1 = p.obp1 ∧ s.ppu.penalties = p.penalties ∧
    s.ppu.framebuffer = List.replicate 144 (List.replicate 160 p.palette.c0) ∧
    s.joypad.schedule = p.schedule ∧ s.serial.peerBits = p.peerBits ∧ s.serial.peerEdges = p.peerEdges ∧
    s.timer.sysclk = p.sysclkStart ∧ s.ppu.ly = p.ppuLy ∧ s.ppu.dot = p.ppuDot ∧
    (p.initialMemory.wf = true → s.mem.vram = p.initialMemory.vram ∧ s.mem.wram = p.initialMemory.wram ∧
      s.mem.oam = p.initialMemory.oam ∧ s.mem.hram = p.initialMemory.hram ∧
      (p.cartRamImage = none → savedRam s = p.initialMemory.cartRam)) ∧
    (∀ image, p.cartRamImage = some image → Store.wf image = true → savedRam s = image) ∧
    savedRtc s =
      if rom.header 0x147 = 0x0F ∨ rom.header 0x147 = 0x10 then some p.rtc else none) ∧
  load ⟨32768, []⟩ .dmg ⟨true, true, true, true, true⟩ LaunchParams.default = .ok State.reset

/-- Rules R694-R696: `clock_m(count)` and `clocks(count)` run whole steps until the requested master
cycles have passed, at most one step beyond; the total is what the cycle counter grew by; a request of
0 runs nothing. Rules R441, R705: `set_palette` takes exactly four colours and changes the palette alone;
any other number is an error. -/
def Obligations.HostOperations : Prop :=
  ∀ (s t : State) (count total : Nat),
    (clockM count s = (t, total, .done) → 4 * count ≤ total ∧ total < 4 * count + 28 ∧
      t.cycles = s.cycles + total) ∧
    (clocks count s = (t, total, .done) → count ≤ total ∧ total < count + 28 ∧
      t.cycles = s.cycles + total) ∧
    clockM 0 s = (s, 0, .done) ∧ clocks 0 s = (s, 0, .done) ∧
    (∀ colors : List Rgb, colors.length ≠ 4 → setPalette colors s = .error .invalidPalette) ∧
    ∀ c0 c1 c2 c3 : Rgb, setPalette [c0, c1, c2, c3] s =
      .ok { s with ppu := { s.ppu with palette := ⟨c0, c1, c2, c3⟩ } }
end

