-- ==== Sys2Proof/Laws/State.lean ====
section
/-! SUPPORT. One lemma per field per update of State and Cpu, each true by unfolding the update once;
later proofs rewrite with these and never unfold a record update. -/

namespace Sys2Proof.Machine

variable (s : State)

/-! ## State updates -/

@[simp] theorem State.withCpu_cpu (c : Cpu) : (s.withCpu c).cpu = c := rfl
@[simp] theorem State.withCpu_ints (c : Cpu) : (s.withCpu c).ints = s.ints := rfl
@[simp] theorem State.withCpu_joypad (c : Cpu) : (s.withCpu c).joypad = s.joypad := rfl
@[simp] theorem State.withCpu_serial (c : Cpu) : (s.withCpu c).serial = s.serial := rfl
@[simp] theorem State.withCpu_timer (c : Cpu) : (s.withCpu c).timer = s.timer := rfl
@[simp] theorem State.withCpu_dma (c : Cpu) : (s.withCpu c).dma = s.dma := rfl
@[simp] theorem State.withCpu_ppu (c : Cpu) : (s.withCpu c).ppu = s.ppu := rfl
@[simp] theorem State.withCpu_apu (c : Cpu) : (s.withCpu c).apu = s.apu := rfl
@[simp] theorem State.withCpu_cart (c : Cpu) : (s.withCpu c).cart = s.cart := rfl
@[simp] theorem State.withCpu_mem (c : Cpu) : (s.withCpu c).mem = s.mem := rfl
@[simp] theorem State.withCpu_svbk (c : Cpu) : (s.withCpu c).svbk = s.svbk := rfl
@[simp] theorem State.withCpu_model (c : Cpu) : (s.withCpu c).model = s.model := rfl
@[simp] theorem State.withCpu_enable (c : Cpu) : (s.withCpu c).enable = s.enable := rfl
@[simp] theorem State.withCpu_cycles (c : Cpu) : (s.withCpu c).cycles = s.cycles := rfl
@[simp] theorem State.withCpu_fault (c : Cpu) : (s.withCpu c).fault = s.fault := rfl
@[simp] theorem State.withCpu_version (c : Cpu) : (s.withCpu c).version = s.version := rfl
@[simp] theorem State.withCpu_stepCost (c : Cpu) : (s.withCpu c).stepCost = s.stepCost := rfl
@[simp] theorem State.withCpu_draws (c : Cpu) : (s.withCpu c).draws = s.draws := rfl

@[simp] theorem State.withTimer_cpu (t : Timer) : (s.withTimer t).cpu = s.cpu := rfl
@[simp] theorem State.withTimer_ints (t : Timer) : (s.withTimer t).ints = s.ints := rfl
@[simp] theorem State.withTimer_joypad (t : Timer) : (s.withTimer t).joypad = s.joypad := rfl
@[simp] theorem State.withTimer_serial (t : Timer) : (s.withTimer t).serial = s.serial := rfl
@[simp] theorem State.withTimer_timer (t : Timer) : (s.withTimer t).timer = t := rfl
@[simp] theorem State.withTimer_dma (t : Timer) : (s.withTimer t).dma = s.dma := rfl
@[simp] theorem State.withTimer_ppu (t : Timer) : (s.withTimer t).ppu = s.ppu := rfl
@[simp] theorem State.withTimer_apu (t : Timer) : (s.withTimer t).apu = s.apu := rfl
@[simp] theorem State.withTimer_cart (t : Timer) : (s.withTimer t).cart = s.cart := rfl
@[simp] theorem State.withTimer_mem (t : Timer) : (s.withTimer t).mem = s.mem := rfl
@[simp] theorem State.withTimer_svbk (t : Timer) : (s.withTimer t).svbk = s.svbk := rfl
@[simp] theorem State.withTimer_model (t : Timer) : (s.withTimer t).model = s.model := rfl
@[simp] theorem State.withTimer_enable (t : Timer) : (s.withTimer t).enable = s.enable := rfl
@[simp] theorem State.withTimer_cycles (t : Timer) : (s.withTimer t).cycles = s.cycles := rfl
@[simp] theorem State.withTimer_fault (t : Timer) : (s.withTimer t).fault = s.fault := rfl
@[simp] theorem State.withTimer_version (t : Timer) : (s.withTimer t).version = s.version := rfl
@[simp] theorem State.withTimer_stepCost (t : Timer) : (s.withTimer t).stepCost = s.stepCost := rfl
@[simp] theorem State.withTimer_draws (t : Timer) : (s.withTimer t).draws = s.draws := rfl

@[simp] theorem State.withSerial_cpu (x : Serial) : (s.withSerial x).cpu = s.cpu := rfl
@[simp] theorem State.withSerial_ints (x : Serial) : (s.withSerial x).ints = s.ints := rfl
@[simp] theorem State.withSerial_joypad (x : Serial) : (s.withSerial x).joypad = s.joypad := rfl
@[simp] theorem State.withSerial_serial (x : Serial) : (s.withSerial x).serial = x := rfl
@[simp] theorem State.withSerial_timer (x : Serial) : (s.withSerial x).timer = s.timer := rfl
@[simp] theorem State.withSerial_dma (x : Serial) : (s.withSerial x).dma = s.dma := rfl
@[simp] theorem State.withSerial_ppu (x : Serial) : (s.withSerial x).ppu = s.ppu := rfl
@[simp] theorem State.withSerial_apu (x : Serial) : (s.withSerial x).apu = s.apu := rfl
@[simp] theorem State.withSerial_cart (x : Serial) : (s.withSerial x).cart = s.cart := rfl
@[simp] theorem State.withSerial_mem (x : Serial) : (s.withSerial x).mem = s.mem := rfl
@[simp] theorem State.withSerial_svbk (x : Serial) : (s.withSerial x).svbk = s.svbk := rfl
@[simp] theorem State.withSerial_model (x : Serial) : (s.withSerial x).model = s.model := rfl
@[simp] theorem State.withSerial_enable (x : Serial) : (s.withSerial x).enable = s.enable := rfl
@[simp] theorem State.withSerial_cycles (x : Serial) : (s.withSerial x).cycles = s.cycles := rfl
@[simp] theorem State.withSerial_fault (x : Serial) : (s.withSerial x).fault = s.fault := rfl
@[simp] theorem State.withSerial_version (x : Serial) : (s.withSerial x).version = s.version := rfl
@[simp] theorem State.withSerial_stepCost (x : Serial) : (s.withSerial x).stepCost = s.stepCost := rfl
@[simp] theorem State.withSerial_draws (x : Serial) : (s.withSerial x).draws = s.draws := rfl

@[simp] theorem State.withPpu_cpu (p : Ppu) : (s.withPpu p).cpu = s.cpu := rfl
@[simp] theorem State.withPpu_ints (p : Ppu) : (s.withPpu p).ints = s.ints := rfl
@[simp] theorem State.withPpu_joypad (p : Ppu) : (s.withPpu p).joypad = s.joypad := rfl
@[simp] theorem State.withPpu_serial (p : Ppu) : (s.withPpu p).serial = s.serial := rfl
@[simp] theorem State.withPpu_timer (p : Ppu) : (s.withPpu p).timer = s.timer := rfl
@[simp] theorem State.withPpu_dma (p : Ppu) : (s.withPpu p).dma = s.dma := rfl
@[simp] theorem State.withPpu_ppu (p : Ppu) : (s.withPpu p).ppu = p := rfl
@[simp] theorem State.withPpu_apu (p : Ppu) : (s.withPpu p).apu = s.apu := rfl
@[simp] theorem State.withPpu_cart (p : Ppu) : (s.withPpu p).cart = s.cart := rfl
@[simp] theorem State.withPpu_mem (p : Ppu) : (s.withPpu p).mem = s.mem := rfl
@[simp] theorem State.withPpu_svbk (p : Ppu) : (s.withPpu p).svbk = s.svbk := rfl
@[simp] theorem State.withPpu_model (p : Ppu) : (s.withPpu p).model = s.model := rfl
@[simp] theorem State.withPpu_enable (p : Ppu) : (s.withPpu p).enable = s.enable := rfl
@[simp] theorem State.withPpu_cycles (p : Ppu) : (s.withPpu p).cycles = s.cycles := rfl
@[simp] theorem State.withPpu_fault (p : Ppu) : (s.withPpu p).fault = s.fault := rfl
@[simp] theorem State.withPpu_version (p : Ppu) : (s.withPpu p).version = s.version := rfl
@[simp] theorem State.withPpu_stepCost (p : Ppu) : (s.withPpu p).stepCost = s.stepCost := rfl
@[simp] theorem State.withPpu_draws (p : Ppu) : (s.withPpu p).draws = s.draws := rfl

@[simp] theorem State.withApu_cpu (a : Apu) : (s.withApu a).cpu = s.cpu := rfl
@[simp] theorem State.withApu_ints (a : Apu) : (s.withApu a).ints = s.ints := rfl
@[simp] theorem State.withApu_joypad (a : Apu) : (s.withApu a).joypad = s.joypad := rfl
@[simp] theorem State.withApu_serial (a : Apu) : (s.withApu a).serial = s.serial := rfl
@[simp] theorem State.withApu_timer (a : Apu) : (s.withApu a).timer = s.timer := rfl
@[simp] theorem State.withApu_dma (a : Apu) : (s.withApu a).dma = s.dma := rfl
@[simp] theorem State.withApu_ppu (a : Apu) : (s.withApu a).ppu = s.ppu := rfl
@[simp] theorem State.withApu_apu (a : Apu) : (s.withApu a).apu = a := rfl
@[simp] theorem State.withApu_cart (a : Apu) : (s.withApu a).cart = s.cart := rfl
@[simp] theorem State.withApu_mem (a : Apu) : (s.withApu a).mem = s.mem := rfl
@[simp] theorem State.withApu_svbk (a : Apu) : (s.withApu a).svbk = s.svbk := rfl
@[simp] theorem State.withApu_model (a : Apu) : (s.withApu a).model = s.model := rfl
@[simp] theorem State.withApu_enable (a : Apu) : (s.withApu a).enable = s.enable := rfl
@[simp] theorem State.withApu_cycles (a : Apu) : (s.withApu a).cycles = s.cycles := rfl
@[simp] theorem State.withApu_fault (a : Apu) : (s.withApu a).fault = s.fault := rfl
@[simp] theorem State.withApu_version (a : Apu) : (s.withApu a).version = s.version := rfl
@[simp] theorem State.withApu_stepCost (a : Apu) : (s.withApu a).stepCost = s.stepCost := rfl
@[simp] theorem State.withApu_draws (a : Apu) : (s.withApu a).draws = s.draws := rfl

@[simp] theorem State.withInts_cpu (x : Interrupts) : (s.withInts x).cpu = s.cpu := rfl
@[simp] theorem State.withInts_ints (x : Interrupts) : (s.withInts x).ints = x := rfl
@[simp] theorem State.withInts_joypad (x : Interrupts) : (s.withInts x).joypad = s.joypad := rfl
@[simp] theorem State.withInts_serial (x : Interrupts) : (s.withInts x).serial = s.serial := rfl
@[simp] theorem State.withInts_timer (x : Interrupts) : (s.withInts x).timer = s.timer := rfl
@[simp] theorem State.withInts_dma (x : Interrupts) : (s.withInts x).dma = s.dma := rfl
@[simp] theorem State.withInts_ppu (x : Interrupts) : (s.withInts x).ppu = s.ppu := rfl
@[simp] theorem State.withInts_apu (x : Interrupts) : (s.withInts x).apu = s.apu := rfl
@[simp] theorem State.withInts_cart (x : Interrupts) : (s.withInts x).cart = s.cart := rfl
@[simp] theorem State.withInts_mem (x : Interrupts) : (s.withInts x).mem = s.mem := rfl
@[simp] theorem State.withInts_svbk (x : Interrupts) : (s.withInts x).svbk = s.svbk := rfl
@[simp] theorem State.withInts_model (x : Interrupts) : (s.withInts x).model = s.model := rfl
@[simp] theorem State.withInts_enable (x : Interrupts) : (s.withInts x).enable = s.enable := rfl
@[simp] theorem State.withInts_cycles (x : Interrupts) : (s.withInts x).cycles = s.cycles := rfl
@[simp] theorem State.withInts_fault (x : Interrupts) : (s.withInts x).fault = s.fault := rfl
@[simp] theorem State.withInts_version (x : Interrupts) : (s.withInts x).version = s.version := rfl
@[simp] theorem State.withInts_stepCost (x : Interrupts) : (s.withInts x).stepCost = s.stepCost := rfl
@[simp] theorem State.withInts_draws (x : Interrupts) : (s.withInts x).draws = s.draws := rfl

@[simp] theorem State.withMem_cpu (m : Memory) : (s.withMem m).cpu = s.cpu := rfl
@[simp] theorem State.withMem_ints (m : Memory) : (s.withMem m).ints = s.ints := rfl
@[simp] theorem State.withMem_joypad (m : Memory) : (s.withMem m).joypad = s.joypad := rfl
@[simp] theorem State.withMem_serial (m : Memory) : (s.withMem m).serial = s.serial := rfl
@[simp] theorem State.withMem_timer (m : Memory) : (s.withMem m).timer = s.timer := rfl
@[simp] theorem State.withMem_dma (m : Memory) : (s.withMem m).dma = s.dma := rfl
@[simp] theorem State.withMem_ppu (m : Memory) : (s.withMem m).ppu = s.ppu := rfl
@[simp] theorem State.withMem_apu (m : Memory) : (s.withMem m).apu = s.apu := rfl
@[simp] theorem State.withMem_cart (m : Memory) : (s.withMem m).cart = s.cart := rfl
@[simp] theorem State.withMem_mem (m : Memory) : (s.withMem m).mem = m := rfl
@[simp] theorem State.withMem_svbk (m : Memory) : (s.withMem m).svbk = s.svbk := rfl
@[simp] theorem State.withMem_model (m : Memory) : (s.withMem m).model = s.model := rfl
@[simp] theorem State.withMem_enable (m : Memory) : (s.withMem m).enable = s.enable := rfl
@[simp] theorem State.withMem_cycles (m : Memory) : (s.withMem m).cycles = s.cycles := rfl
@[simp] theorem State.withMem_fault (m : Memory) : (s.withMem m).fault = s.fault := rfl
@[simp] theorem State.withMem_version (m : Memory) : (s.withMem m).version = s.version := rfl
@[simp] theorem State.withMem_stepCost (m : Memory) : (s.withMem m).stepCost = s.stepCost := rfl
@[simp] theorem State.withMem_draws (m : Memory) : (s.withMem m).draws = s.draws := rfl

@[simp] theorem State.addCost_cpu (k : Nat) : (s.addCost k).cpu = s.cpu := rfl
@[simp] theorem State.addCost_ints (k : Nat) : (s.addCost k).ints = s.ints := rfl
@[simp] theorem State.addCost_joypad (k : Nat) : (s.addCost k).joypad = s.joypad := rfl
@[simp] theorem State.addCost_serial (k : Nat) : (s.addCost k).serial = s.serial := rfl
@[simp] theorem State.addCost_timer (k : Nat) : (s.addCost k).timer = s.timer := rfl
@[simp] theorem State.addCost_dma (k : Nat) : (s.addCost k).dma = s.dma := rfl
@[simp] theorem State.addCost_ppu (k : Nat) : (s.addCost k).ppu = s.ppu := rfl
@[simp] theorem State.addCost_apu (k : Nat) : (s.addCost k).apu = s.apu := rfl
@[simp] theorem State.addCost_cart (k : Nat) : (s.addCost k).cart = s.cart := rfl
@[simp] theorem State.addCost_mem (k : Nat) : (s.addCost k).mem = s.mem := rfl
@[simp] theorem State.addCost_svbk (k : Nat) : (s.addCost k).svbk = s.svbk := rfl
@[simp] theorem State.addCost_model (k : Nat) : (s.addCost k).model = s.model := rfl
@[simp] theorem State.addCost_enable (k : Nat) : (s.addCost k).enable = s.enable := rfl
@[simp] theorem State.addCost_cycles (k : Nat) : (s.addCost k).cycles = s.cycles := rfl
@[simp] theorem State.addCost_fault (k : Nat) : (s.addCost k).fault = s.fault := rfl
@[simp] theorem State.addCost_version (k : Nat) : (s.addCost k).version = s.version := rfl
@[simp] theorem State.addCost_stepCost (k : Nat) : (s.addCost k).stepCost = s.stepCost + k := rfl
@[simp] theorem State.addCost_draws (k : Nat) : (s.addCost k).draws = s.draws := rfl

@[simp] theorem State.setReg8_cpu (r : Reg8) (v : Byte) : (s.setReg8 r v).cpu = s.cpu.setReg8 r v := rfl
@[simp] theorem State.setReg8_ints (r : Reg8) (v : Byte) : (s.setReg8 r v).ints = s.ints := rfl
@[simp] theorem State.setReg8_joypad (r : Reg8) (v : Byte) : (s.setReg8 r v).joypad = s.joypad := rfl
@[simp] theorem State.setReg8_serial (r : Reg8) (v : Byte) : (s.setReg8 r v).serial = s.serial := rfl
@[simp] theorem State.setReg8_timer (r : Reg8) (v : Byte) : (s.setReg8 r v).timer = s.timer := rfl
@[simp] theorem State.setReg8_dma (r : Reg8) (v : Byte) : (s.setReg8 r v).dma = s.dma := rfl
@[simp] theorem State.setReg8_ppu (r : Reg8) (v : Byte) : (s.setReg8 r v).ppu = s.ppu := rfl
@[simp] theorem State.setReg8_apu (r : Reg8) (v : Byte) : (s.setReg8 r v).apu = s.apu := rfl
@[simp] theorem State.setReg8_cart (r : Reg8) (v : Byte) : (s.setReg8 r v).cart = s.cart := rfl
@[simp] theorem State.setReg8_mem (r : Reg8) (v : Byte) : (s.setReg8 r v).mem = s.mem := rfl
@[simp] theorem State.setReg8_svbk (r : Reg8) (v : Byte) : (s.setReg8 r v).svbk = s.svbk := rfl
@[simp] theorem State.setReg8_model (r : Reg8) (v : Byte) : (s.setReg8 r v).model = s.model := rfl
@[simp] theorem State.setReg8_enable (r : Reg8) (v : Byte) : (s.setReg8 r v).enable = s.enable := rfl
@[simp] theorem State.setReg8_cycles (r : Reg8) (v : Byte) : (s.setReg8 r v).cycles = s.cycles := rfl
@[simp] theorem State.setReg8_fault (r : Reg8) (v : Byte) : (s.setReg8 r v).fault = s.fault := rfl
@[simp] theorem State.setReg8_version (r : Reg8) (v : Byte) : (s.setReg8 r v).version = s.version := rfl
@[simp] theorem State.setReg8_stepCost (r : Reg8) (v : Byte) : (s.setReg8 r v).stepCost = s.stepCost := rfl
@[simp] theorem State.setReg8_draws (r : Reg8) (v : Byte) : (s.setReg8 r v).draws = s.draws := rfl

@[simp] theorem State.setReg16_cpu (p : Reg16) (v : Word) : (s.setReg16 p v).cpu = s.cpu.setReg16 p v := rfl
@[simp] theorem State.setReg16_ints (p : Reg16) (v : Word) : (s.setReg16 p v).ints = s.ints := rfl
@[simp] theorem State.setReg16_joypad (p : Reg16) (v : Word) : (s.setReg16 p v).joypad = s.joypad := rfl
@[simp] theorem State.setReg16_serial (p : Reg16) (v : Word) : (s.setReg16 p v).serial = s.serial := rfl
@[simp] theorem State.setReg16_timer (p : Reg16) (v : Word) : (s.setReg16 p v).timer = s.timer := rfl
@[simp] theorem State.setReg16_dma (p : Reg16) (v : Word) : (s.setReg16 p v).dma = s.dma := rfl
@[simp] theorem State.setReg16_ppu (p : Reg16) (v : Word) : (s.setReg16 p v).ppu = s.ppu := rfl
@[simp] theorem State.setReg16_apu (p : Reg16) (v : Word) : (s.setReg16 p v).apu = s.apu := rfl
@[simp] theorem State.setReg16_cart (p : Reg16) (v : Word) : (s.setReg16 p v).cart = s.cart := rfl
@[simp] theorem State.setReg16_mem (p : Reg16) (v : Word) : (s.setReg16 p v).mem = s.mem := rfl
@[simp] theorem State.setReg16_svbk (p : Reg16) (v : Word) : (s.setReg16 p v).svbk = s.svbk := rfl
@[simp] theorem State.setReg16_model (p : Reg16) (v : Word) : (s.setReg16 p v).model = s.model := rfl
@[simp] theorem State.setReg16_enable (p : Reg16) (v : Word) : (s.setReg16 p v).enable = s.enable := rfl
@[simp] theorem State.setReg16_cycles (p : Reg16) (v : Word) : (s.setReg16 p v).cycles = s.cycles := rfl
@[simp] theorem State.setReg16_fault (p : Reg16) (v : Word) : (s.setReg16 p v).fault = s.fault := rfl
@[simp] theorem State.setReg16_version (p : Reg16) (v : Word) : (s.setReg16 p v).version = s.version := rfl
@[simp] theorem State.setReg16_stepCost (p : Reg16) (v : Word) : (s.setReg16 p v).stepCost = s.stepCost := rfl
@[simp] theorem State.setReg16_draws (p : Reg16) (v : Word) : (s.setReg16 p v).draws = s.draws := rfl

@[simp] theorem State.setStackPair_cpu (p : StackPair) (v : Word) : (s.setStackPair p v).cpu = s.cpu.setStackPair p v := rfl
@[simp] theorem State.setStackPair_ints (p : StackPair) (v : Word) : (s.setStackPair p v).ints = s.ints := rfl
@[simp] theorem State.setStackPair_joypad (p : StackPair) (v : Word) : (s.setStackPair p v).joypad = s.joypad := rfl
@[simp] theorem State.setStackPair_serial (p : StackPair) (v : Word) : (s.setStackPair p v).serial = s.serial := rfl
@[simp] theorem State.setStackPair_timer (p : StackPair) (v : Word) : (s.setStackPair p v).timer = s.timer := rfl
@[simp] theorem State.setStackPair_dma (p : StackPair) (v : Word) : (s.setStackPair p v).dma = s.dma := rfl
@[simp] theorem State.setStackPair_ppu (p : StackPair) (v : Word) : (s.setStackPair p v).ppu = s.ppu := rfl
@[simp] theorem State.setStackPair_apu (p : StackPair) (v : Word) : (s.setStackPair p v).apu = s.apu := rfl
@[simp] theorem State.setStackPair_cart (p : StackPair) (v : Word) : (s.setStackPair p v).cart = s.cart := rfl
@[simp] theorem State.setStackPair_mem (p : StackPair) (v : Word) : (s.setStackPair p v).mem = s.mem := rfl
@[simp] theorem State.setStackPair_svbk (p : StackPair) (v : Word) : (s.setStackPair p v).svbk = s.svbk := rfl
@[simp] theorem State.setStackPair_model (p : StackPair) (v : Word) : (s.setStackPair p v).model = s.model := rfl
@[simp] theorem State.setStackPair_enable (p : StackPair) (v : Word) : (s.setStackPair p v).enable = s.enable := rfl
@[simp] theorem State.setStackPair_cycles (p : StackPair) (v : Word) : (s.setStackPair p v).cycles = s.cycles := rfl
@[simp] theorem State.setStackPair_fault (p : StackPair) (v : Word) : (s.setStackPair p v).fault = s.fault := rfl
@[simp] theorem State.setStackPair_version (p : StackPair) (v : Word) : (s.setStackPair p v).version = s.version := rfl
@[simp] theorem State.setStackPair_stepCost (p : StackPair) (v : Word) : (s.setStackPair p v).stepCost = s.stepCost := rfl
@[simp] theorem State.setStackPair_draws (p : StackPair) (v : Word) : (s.setStackPair p v).draws = s.draws := rfl

@[simp] theorem State.setFlags_cpu (f : Flags) : (s.setFlags f).cpu = { s.cpu with flags := f } := rfl
@[simp] theorem State.setFlags_ints (f : Flags) : (s.setFlags f).ints = s.ints := rfl
@[simp] theorem State.setFlags_joypad (f : Flags) : (s.setFlags f).joypad = s.joypad := rfl
@[simp] theorem State.setFlags_serial (f : Flags) : (s.setFlags f).serial = s.serial := rfl
@[simp] theorem State.setFlags_timer (f : Flags) : (s.setFlags f).timer = s.timer := rfl
@[simp] theorem State.setFlags_dma (f : Flags) : (s.setFlags f).dma = s.dma := rfl
@[simp] theorem State.setFlags_ppu (f : Flags) : (s.setFlags f).ppu = s.ppu := rfl
@[simp] theorem State.setFlags_apu (f : Flags) : (s.setFlags f).apu = s.apu := rfl
@[simp] theorem State.setFlags_cart (f : Flags) : (s.setFlags f).cart = s.cart := rfl
@[simp] theorem State.setFlags_mem (f : Flags) : (s.setFlags f).mem = s.mem := rfl
@[simp] theorem State.setFlags_svbk (f : Flags) : (s.setFlags f).svbk = s.svbk := rfl
@[simp] theorem State.setFlags_model (f : Flags) : (s.setFlags f).model = s.model := rfl
@[simp] theorem State.setFlags_enable (f : Flags) : (s.setFlags f).enable = s.enable := rfl
@[simp] theorem State.setFlags_cycles (f : Flags) : (s.setFlags f).cycles = s.cycles := rfl
@[simp] theorem State.setFlags_fault (f : Flags) : (s.setFlags f).fault = s.fault := rfl
@[simp] theorem State.setFlags_version (f : Flags) : (s.setFlags f).version = s.version := rfl
@[simp] theorem State.setFlags_stepCost (f : Flags) : (s.setFlags f).stepCost = s.stepCost := rfl
@[simp] theorem State.setFlags_draws (f : Flags) : (s.setFlags f).draws = s.draws := rfl

@[simp] theorem State.setSp_cpu (v : Word) : (s.setSp v).cpu = { s.cpu with sp := v } := rfl
@[simp] theorem State.setSp_ints (v : Word) : (s.setSp v).ints = s.ints := rfl
@[simp] theorem State.setSp_joypad (v : Word) : (s.setSp v).joypad = s.joypad := rfl
@[simp] theorem State.setSp_serial (v : Word) : (s.setSp v).serial = s.serial := rfl
@[simp] theorem State.setSp_timer (v : Word) : (s.setSp v).timer = s.timer := rfl
@[simp] theorem State.setSp_dma (v : Word) : (s.setSp v).dma = s.dma := rfl
@[simp] theorem State.setSp_ppu (v : Word) : (s.setSp v).ppu = s.ppu := rfl
@[simp] theorem State.setSp_apu (v : Word) : (s.setSp v).apu = s.apu := rfl
@[simp] theorem State.setSp_cart (v : Word) : (s.setSp v).cart = s.cart := rfl
@[simp] theorem State.setSp_mem (v : Word) : (s.setSp v).mem = s.mem := rfl
@[simp] theorem State.setSp_svbk (v : Word) : (s.setSp v).svbk = s.svbk := rfl
@[simp] theorem State.setSp_model (v : Word) : (s.setSp v).model = s.model := rfl
@[simp] theorem State.setSp_enable (v : Word) : (s.setSp v).enable = s.enable := rfl
@[simp] theorem State.setSp_cycles (v : Word) : (s.setSp v).cycles = s.cycles := rfl
@[simp] theorem State.setSp_fault (v : Word) : (s.setSp v).fault = s.fault := rfl
@[simp] theorem State.setSp_version (v : Word) : (s.setSp v).version = s.version := rfl
@[simp] theorem State.setSp_stepCost (v : Word) : (s.setSp v).stepCost = s.stepCost := rfl
@[simp] theorem State.setSp_draws (v : Word) : (s.setSp v).draws = s.draws := rfl

@[simp] theorem State.setPc_cpu (v : Word) : (s.setPc v).cpu = { s.cpu with pc := v } := rfl
@[simp] theorem State.setPc_ints (v : Word) : (s.setPc v).ints = s.ints := rfl
@[simp] theorem State.setPc_joypad (v : Word) : (s.setPc v).joypad = s.joypad := rfl
@[simp] theorem State.setPc_serial (v : Word) : (s.setPc v).serial = s.serial := rfl
@[simp] theorem State.setPc_timer (v : Word) : (s.setPc v).timer = s.timer := rfl
@[simp] theorem State.setPc_dma (v : Word) : (s.setPc v).dma = s.dma := rfl
@[simp] theorem State.setPc_ppu (v : Word) : (s.setPc v).ppu = s.ppu := rfl
@[simp] theorem State.setPc_apu (v : Word) : (s.setPc v).apu = s.apu := rfl
@[simp] theorem State.setPc_cart (v : Word) : (s.setPc v).cart = s.cart := rfl
@[simp] theorem State.setPc_mem (v : Word) : (s.setPc v).mem = s.mem := rfl
@[simp] theorem State.setPc_svbk (v : Word) : (s.setPc v).svbk = s.svbk := rfl
@[simp] theorem State.setPc_model (v : Word) : (s.setPc v).model = s.model := rfl
@[simp] theorem State.setPc_enable (v : Word) : (s.setPc v).enable = s.enable := rfl
@[simp] theorem State.setPc_cycles (v : Word) : (s.setPc v).cycles = s.cycles := rfl
@[simp] theorem State.setPc_fault (v : Word) : (s.setPc v).fault = s.fault := rfl
@[simp] theorem State.setPc_version (v : Word) : (s.setPc v).version = s.version := rfl
@[simp] theorem State.setPc_stepCost (v : Word) : (s.setPc v).stepCost = s.stepCost := rfl
@[simp] theorem State.setPc_draws (v : Word) : (s.setPc v).draws = s.draws := rfl

@[simp] theorem State.jumpBy_cpu (e : Int) : (s.jumpBy e).cpu = { s.cpu with pc := s.cpu.pc + dispWord e } := rfl
@[simp] theorem State.jumpBy_ints (e : Int) : (s.jumpBy e).ints = s.ints := rfl
@[simp] theorem State.jumpBy_joypad (e : Int) : (s.jumpBy e).joypad = s.joypad := rfl
@[simp] theorem State.jumpBy_serial (e : Int) : (s.jumpBy e).serial = s.serial := rfl
@[simp] theorem State.jumpBy_timer (e : Int) : (s.jumpBy e).timer = s.timer := rfl
@[simp] theorem State.jumpBy_dma (e : Int) : (s.jumpBy e).dma = s.dma := rfl
@[simp] theorem State.jumpBy_ppu (e : Int) : (s.jumpBy e).ppu = s.ppu := rfl
@[simp] theorem State.jumpBy_apu (e : Int) : (s.jumpBy e).apu = s.apu := rfl
@[simp] theorem State.jumpBy_cart (e : Int) : (s.jumpBy e).cart = s.cart := rfl
@[simp] theorem State.jumpBy_mem (e : Int) : (s.jumpBy e).mem = s.mem := rfl
@[simp] theorem State.jumpBy_svbk (e : Int) : (s.jumpBy e).svbk = s.svbk := rfl
@[simp] theorem State.jumpBy_model (e : Int) : (s.jumpBy e).model = s.model := rfl
@[simp] theorem State.jumpBy_enable (e : Int) : (s.jumpBy e).enable = s.enable := rfl
@[simp] theorem State.jumpBy_cycles (e : Int) : (s.jumpBy e).cycles = s.cycles := rfl
@[simp] theorem State.jumpBy_fault (e : Int) : (s.jumpBy e).fault = s.fault := rfl
@[simp] theorem State.jumpBy_version (e : Int) : (s.jumpBy e).version = s.version := rfl
@[simp] theorem State.jumpBy_stepCost (e : Int) : (s.jumpBy e).stepCost = s.stepCost := rfl
@[simp] theorem State.jumpBy_draws (e : Int) : (s.jumpBy e).draws = s.draws := rfl

@[simp] theorem State.disableInterrupts_cpu : s.disableInterrupts.cpu = { s.cpu with ime := false, imeDelay := false } := rfl
@[simp] theorem State.disableInterrupts_ints : s.disableInterrupts.ints = s.ints := rfl
@[simp] theorem State.disableInterrupts_joypad : s.disableInterrupts.joypad = s.joypad := rfl
@[simp] theorem State.disableInterrupts_serial : s.disableInterrupts.serial = s.serial := rfl
@[simp] theorem State.disableInterrupts_timer : s.disableInterrupts.timer = s.timer := rfl
@[simp] theorem State.disableInterrupts_dma : s.disableInterrupts.dma = s.dma := rfl
@[simp] theorem State.disableInterrupts_ppu : s.disableInterrupts.ppu = s.ppu := rfl
@[simp] theorem State.disableInterrupts_apu : s.disableInterrupts.apu = s.apu := rfl
@[simp] theorem State.disableInterrupts_cart : s.disableInterrupts.cart = s.cart := rfl
@[simp] theorem State.disableInterrupts_mem : s.disableInterrupts.mem = s.mem := rfl
@[simp] theorem State.disableInterrupts_svbk : s.disableInterrupts.svbk = s.svbk := rfl
@[simp] theorem State.disableInterrupts_model : s.disableInterrupts.model = s.model := rfl
@[simp] theorem State.disableInterrupts_enable : s.disableInterrupts.enable = s.enable := rfl
@[simp] theorem State.disableInterrupts_cycles : s.disableInterrupts.cycles = s.cycles := rfl
@[simp] theorem State.disableInterrupts_fault : s.disableInterrupts.fault = s.fault := rfl
@[simp] theorem State.disableInterrupts_version : s.disableInterrupts.version = s.version := rfl
@[simp] theorem State.disableInterrupts_stepCost : s.disableInterrupts.stepCost = s.stepCost := rfl
@[simp] theorem State.disableInterrupts_draws : s.disableInterrupts.draws = s.draws := rfl

@[simp] theorem State.enableInterrupts_cpu : s.enableInterrupts.cpu = { s.cpu with imeDelay := true } := rfl
@[simp] theorem State.enableInterrupts_ints : s.enableInterrupts.ints = s.ints := rfl
@[simp] theorem State.enableInterrupts_joypad : s.enableInterrupts.joypad = s.joypad := rfl
@[simp] theorem State.enableInterrupts_serial : s.enableInterrupts.serial = s.serial := rfl
@[simp] theorem State.enableInterrupts_timer : s.enableInterrupts.timer = s.timer := rfl
@[simp] theorem State.enableInterrupts_dma : s.enableInterrupts.dma = s.dma := rfl
@[simp] theorem State.enableInterrupts_ppu : s.enableInterrupts.ppu = s.ppu := rfl
@[simp] theorem State.enableInterrupts_apu : s.enableInterrupts.apu = s.apu := rfl
@[simp] theorem State.enableInterrupts_cart : s.enableInterrupts.cart = s.cart := rfl
@[simp] theorem State.enableInterrupts_mem : s.enableInterrupts.mem = s.mem := rfl
@[simp] theorem State.enableInterrupts_svbk : s.enableInterrupts.svbk = s.svbk := rfl
@[simp] theorem State.enableInterrupts_model : s.enableInterrupts.model = s.model := rfl
@[simp] theorem State.enableInterrupts_enable : s.enableInterrupts.enable = s.enable := rfl
@[simp] theorem State.enableInterrupts_cycles : s.enableInterrupts.cycles = s.cycles := rfl
@[simp] theorem State.enableInterrupts_fault : s.enableInterrupts.fault = s.fault := rfl
@[simp] theorem State.enableInterrupts_version : s.enableInterrupts.version = s.version := rfl
@[simp] theorem State.enableInterrupts_stepCost : s.enableInterrupts.stepCost = s.stepCost := rfl
@[simp] theorem State.enableInterrupts_draws : s.enableInterrupts.draws = s.draws := rfl

@[simp] theorem State.enterDispatch_cpu : s.enterDispatch.cpu = { s.cpu with ime := false, imeDelay := false, haltBug := false } := rfl
@[simp] theorem State.enterDispatch_ints : s.enterDispatch.ints = s.ints := rfl
@[simp] theorem State.enterDispatch_joypad : s.enterDispatch.joypad = s.joypad := rfl
@[simp] theorem State.enterDispatch_serial : s.enterDispatch.serial = s.serial := rfl
@[simp] theorem State.enterDispatch_timer : s.enterDispatch.timer = s.timer := rfl
@[simp] theorem State.enterDispatch_dma : s.enterDispatch.dma = s.dma := rfl
@[simp] theorem State.enterDispatch_ppu : s.enterDispatch.ppu = s.ppu := rfl
@[simp] theorem State.enterDispatch_apu : s.enterDispatch.apu = s.apu := rfl
@[simp] theorem State.enterDispatch_cart : s.enterDispatch.cart = s.cart := rfl
@[simp] theorem State.enterDispatch_mem : s.enterDispatch.mem = s.mem := rfl
@[simp] theorem State.enterDispatch_svbk : s.enterDispatch.svbk = s.svbk := rfl
@[simp] theorem State.enterDispatch_model : s.enterDispatch.model = s.model := rfl
@[simp] theorem State.enterDispatch_enable : s.enterDispatch.enable = s.enable := rfl
@[simp] theorem State.enterDispatch_cycles : s.enterDispatch.cycles = s.cycles := rfl
@[simp] theorem State.enterDispatch_fault : s.enterDispatch.fault = s.fault := rfl
@[simp] theorem State.enterDispatch_version : s.enterDispatch.version = s.version := rfl
@[simp] theorem State.enterDispatch_stepCost : s.enterDispatch.stepCost = s.stepCost := rfl
@[simp] theorem State.enterDispatch_draws : s.enterDispatch.draws = s.draws := rfl

@[simp] theorem State.startInstr_cpu (len cost : Nat) : (s.startInstr len cost).cpu =
    { s.cpu with pc := wordAdd s.cpu.pc (fetchAdvance s.cpu.haltBug len), haltBug := false } := rfl
@[simp] theorem State.startInstr_ints (len cost : Nat) : (s.startInstr len cost).ints = s.ints := rfl
@[simp] theorem State.startInstr_joypad (len cost : Nat) : (s.startInstr len cost).joypad = s.joypad := rfl
@[simp] theorem State.startInstr_serial (len cost : Nat) : (s.startInstr len cost).serial = s.serial := rfl
@[simp] theorem State.startInstr_timer (len cost : Nat) : (s.startInstr len cost).timer = s.timer := rfl
@[simp] theorem State.startInstr_dma (len cost : Nat) : (s.startInstr len cost).dma = s.dma := rfl
@[simp] theorem State.startInstr_ppu (len cost : Nat) : (s.startInstr len cost).ppu = s.ppu := rfl
@[simp] theorem State.startInstr_apu (len cost : Nat) : (s.startInstr len cost).apu = s.apu := rfl
@[simp] theorem State.startInstr_cart (len cost : Nat) : (s.startInstr len cost).cart = s.cart := rfl
@[simp] theorem State.startInstr_mem (len cost : Nat) : (s.startInstr len cost).mem = s.mem := rfl
@[simp] theorem State.startInstr_svbk (len cost : Nat) : (s.startInstr len cost).svbk = s.svbk := rfl
@[simp] theorem State.startInstr_model (len cost : Nat) : (s.startInstr len cost).model = s.model := rfl
@[simp] theorem State.startInstr_enable (len cost : Nat) : (s.startInstr len cost).enable = s.enable := rfl
@[simp] theorem State.startInstr_cycles (len cost : Nat) : (s.startInstr len cost).cycles = s.cycles := rfl
@[simp] theorem State.startInstr_fault (len cost : Nat) : (s.startInstr len cost).fault = s.fault := rfl
@[simp] theorem State.startInstr_version (len cost : Nat) : (s.startInstr len cost).version = s.version := rfl
@[simp] theorem State.startInstr_stepCost (len cost : Nat) : (s.startInstr len cost).stepCost = s.stepCost + cost := rfl
@[simp] theorem State.startInstr_draws (len cost : Nat) : (s.startInstr len cost).draws = s.draws := rfl

@[simp] theorem State.enterStop_ints : s.enterStop.ints = s.ints := rfl
@[simp] theorem State.enterStop_joypad : s.enterStop.joypad = s.joypad := rfl
@[simp] theorem State.enterStop_serial : s.enterStop.serial = s.serial := rfl
@[simp] theorem State.enterStop_dma : s.enterStop.dma = s.dma := rfl
@[simp] theorem State.enterStop_ppu : s.enterStop.ppu = s.ppu := rfl
@[simp] theorem State.enterStop_apu : s.enterStop.apu = s.apu := rfl
@[simp] theorem State.enterStop_cart : s.enterStop.cart = s.cart := rfl
@[simp] theorem State.enterStop_mem : s.enterStop.mem = s.mem := rfl
@[simp] theorem State.enterStop_svbk : s.enterStop.svbk = s.svbk := rfl
@[simp] theorem State.enterStop_model : s.enterStop.model = s.model := rfl
@[simp] theorem State.enterStop_enable : s.enterStop.enable = s.enable := rfl
@[simp] theorem State.enterStop_cycles : s.enterStop.cycles = s.cycles := rfl
@[simp] theorem State.enterStop_fault : s.enterStop.fault = s.fault := rfl
@[simp] theorem State.enterStop_version : s.enterStop.version = s.version := rfl
@[simp] theorem State.enterStop_stepCost : s.enterStop.stepCost = s.stepCost := rfl
@[simp] theorem State.enterStop_draws : s.enterStop.draws = s.draws := rfl
@[simp] theorem State.enterStop_cpu : s.enterStop.cpu = { s.cpu with stopped := true } := rfl
@[simp] theorem State.enterStop_timer : s.enterStop.timer = s.timer.divReset s.enable.timer := rfl

@[simp] theorem State.enterHalt_ints : s.enterHalt.ints = s.ints := by
  unfold State.enterHalt; split <;> rfl
@[simp] theorem State.enterHalt_joypad : s.enterHalt.joypad = s.joypad := by
  unfold State.enterHalt; split <;> rfl
@[simp] theorem State.enterHalt_serial : s.enterHalt.serial = s.serial := by
  unfold State.enterHalt; split <;> rfl
@[simp] theorem State.enterHalt_timer : s.enterHalt.timer = s.timer := by
  unfold State.enterHalt; split <;> rfl
@[simp] theorem State.enterHalt_dma : s.enterHalt.dma = s.dma := by
  unfold State.enterHalt; split <;> rfl
@[simp] theorem State.enterHalt_ppu : s.enterHalt.ppu = s.ppu := by
  unfold State.enterHalt; split <;> rfl
@[simp] theorem State.enterHalt_apu : s.enterHalt.apu = s.apu := by
  unfold State.enterHalt; split <;> rfl
@[simp] theorem State.enterHalt_cart : s.enterHalt.cart = s.cart := by
  unfold State.enterHalt; split <;> rfl
@[simp] theorem State.enterHalt_mem : s.enterHalt.mem = s.mem := by
  unfold State.enterHalt; split <;> rfl
@[simp] theorem State.enterHalt_svbk : s.enterHalt.svbk = s.svbk := by
  unfold State.enterHalt; split <;> rfl
@[simp] theorem State.enterHalt_model : s.enterHalt.model = s.model := by
  unfold State.enterHalt; split <;> rfl
@[simp] theorem State.enterHalt_enable : s.enterHalt.enable = s.enable := by
  unfold State.enterHalt; split <;> rfl
@[simp] theorem State.enterHalt_cycles : s.enterHalt.cycles = s.cycles := by
  unfold State.enterHalt; split <;> rfl
@[simp] theorem State.enterHalt_fault : s.enterHalt.fault = s.fault := by
  unfold State.enterHalt; split <;> rfl
@[simp] theorem State.enterHalt_version : s.enterHalt.version = s.version := by
  unfold State.enterHalt; split <;> rfl
@[simp] theorem State.enterHalt_stepCost : s.enterHalt.stepCost = s.stepCost := by
  unfold State.enterHalt; split <;> rfl
@[simp] theorem State.enterHalt_draws : s.enterHalt.draws = s.draws := by
  unfold State.enterHalt; split <;> rfl

/-! ## Register updates of the CPU -/

variable (c : Cpu)

@[simp] theorem Cpu.setReg8_flags (r : Reg8) (v : Byte) : (c.setReg8 r v).flags = c.flags := by
  cases r <;> rfl
@[simp] theorem Cpu.setReg8_sp (r : Reg8) (v : Byte) : (c.setReg8 r v).sp = c.sp := by
  cases r <;> rfl
@[simp] theorem Cpu.setReg8_pc (r : Reg8) (v : Byte) : (c.setReg8 r v).pc = c.pc := by
  cases r <;> rfl
@[simp] theorem Cpu.setReg8_ime (r : Reg8) (v : Byte) : (c.setReg8 r v).ime = c.ime := by
  cases r <;> rfl
@[simp] theorem Cpu.setReg8_imeDelay (r : Reg8) (v : Byte) : (c.setReg8 r v).imeDelay = c.imeDelay := by
  cases r <;> rfl
@[simp] theorem Cpu.setReg8_halted (r : Reg8) (v : Byte) : (c.setReg8 r v).halted = c.halted := by
  cases r <;> rfl
@[simp] theorem Cpu.setReg8_haltBug (r : Reg8) (v : Byte) : (c.setReg8 r v).haltBug = c.haltBug := by
  cases r <;> rfl
@[simp] theorem Cpu.setReg8_stopped (r : Reg8) (v : Byte) : (c.setReg8 r v).stopped = c.stopped := by
  cases r <;> rfl
@[simp] theorem Cpu.setReg16_a (p : Reg16) (v : Word) : (c.setReg16 p v).a = c.a := by
  cases p <;> rfl
@[simp] theorem Cpu.setReg16_flags (p : Reg16) (v : Word) : (c.setReg16 p v).flags = c.flags := by
  cases p <;> rfl
@[simp] theorem Cpu.setReg16_pc (p : Reg16) (v : Word) : (c.setReg16 p v).pc = c.pc := by
  cases p <;> rfl
@[simp] theorem Cpu.setReg16_ime (p : Reg16) (v : Word) : (c.setReg16 p v).ime = c.ime := by
  cases p <;> rfl
@[simp] theorem Cpu.setReg16_imeDelay (p : Reg16) (v : Word) : (c.setReg16 p v).imeDelay = c.imeDelay := by
  cases p <;> rfl
@[simp] theorem Cpu.setReg16_halted (p : Reg16) (v : Word) : (c.setReg16 p v).halted = c.halted := by
  cases p <;> rfl
@[simp] theorem Cpu.setReg16_haltBug (p : Reg16) (v : Word) : (c.setReg16 p v).haltBug = c.haltBug := by
  cases p <;> rfl
@[simp] theorem Cpu.setReg16_stopped (p : Reg16) (v : Word) : (c.setReg16 p v).stopped = c.stopped := by
  cases p <;> rfl
@[simp] theorem Cpu.setStackPair_sp (p : StackPair) (v : Word) :
    (c.setStackPair p v).sp = c.sp := by cases p <;> rfl
@[simp] theorem Cpu.setStackPair_pc (p : StackPair) (v : Word) :
    (c.setStackPair p v).pc = c.pc := by cases p <;> rfl
@[simp] theorem Cpu.setStackPair_ime (p : StackPair) (v : Word) :
    (c.setStackPair p v).ime = c.ime := by cases p <;> rfl
@[simp] theorem Cpu.setStackPair_imeDelay (p : StackPair) (v : Word) :
    (c.setStackPair p v).imeDelay = c.imeDelay := by cases p <;> rfl
@[simp] theorem Cpu.setStackPair_halted (p : StackPair) (v : Word) :
    (c.setStackPair p v).halted = c.halted := by cases p <;> rfl
@[simp] theorem Cpu.setStackPair_haltBug (p : StackPair) (v : Word) :
    (c.setStackPair p v).haltBug = c.haltBug := by cases p <;> rfl
@[simp] theorem Cpu.setStackPair_stopped (p : StackPair) (v : Word) :
    (c.setStackPair p v).stopped = c.stopped := by cases p <;> rfl

theorem Cpu.reg8_setReg8 (r q : Reg8) (v : Byte) :
    (c.setReg8 r v).reg8 q = if q = r then v else c.reg8 q := by
  cases r <;> cases q <;> rfl

@[simp] theorem Cpu.reg8_setReg8_same (r : Reg8) (v : Byte) : (c.setReg8 r v).reg8 r = v := by
  cases r <;> rfl

@[simp] theorem Cpu.reg16_setReg16_same (p : Reg16) (v : Word) : (c.setReg16 p v).reg16 p = v := by
  cases p <;> simp [Cpu.setReg16, Cpu.reg16]

@[simp] theorem Flags.ofByte_toByte (f : Flags) : Flags.ofByte f.toByte = f := by
  rcases f with ⟨_ | _, _ | _, _ | _, _ | _⟩ <;> rfl

@[simp] theorem Cpu.stackPair_setStackPair_same (p : StackPair) (v : Word) (h : p ≠ .af) :
    (c.setStackPair p v).stackPair p = v := by
  cases p <;> simp_all [Cpu.setStackPair, Cpu.stackPair]

@[simp] theorem Cpu.reg8_eq_of_flags (f : Flags) (r : Reg8) : { c with flags := f }.reg8 r = c.reg8 r := by
  cases r <;> rfl

@[simp] theorem Cpu.reg8_eq_of_sp (v : Word) (r : Reg8) : { c with sp := v }.reg8 r = c.reg8 r := by
  cases r <;> rfl

@[simp] theorem Cpu.reg8_eq_of_pc (v : Word) (r : Reg8) : { c with pc := v }.reg8 r = c.reg8 r := by
  cases r <;> rfl

@[simp] theorem Cpu.reg8_eq_of_start (v : Word) (b : Bool) (r : Reg8) :
    { c with pc := v, haltBug := b }.reg8 r = c.reg8 r := by
  cases r <;> rfl

@[simp] theorem Cpu.reg16_eq_of_start (v : Word) (b : Bool) (p : Reg16) :
    { c with pc := v, haltBug := b }.reg16 p = c.reg16 p := by
  cases p <;> rfl

@[simp] theorem State.startInstr_reg8 (len cost : Nat) (r : Reg8) :
    (s.startInstr len cost).reg8 r = s.reg8 r := by
  cases r <;> rfl

@[simp] theorem State.startInstr_reg16 (len cost : Nat) (p : Reg16) :
    (s.startInstr len cost).reg16 p = s.reg16 p := by
  cases p <;> rfl

@[simp] theorem State.startInstr_hl (len cost : Nat) : (s.startInstr len cost).hl = s.hl := rfl

end Sys2Proof.Machine
end

