-- ==== Sys2Proof/Laws/Store.lean ====
section
/-! SUPPORT. The laws of the sparse stores: reading after writing, the canonical form, and that
canonical stores with equal contents are equal. -/

namespace Sys2Proof.Machine

theorem Store.wfFrom_cons (lo k : Nat) (w : Byte) (m : Store) :
    Store.wfFrom lo ((k, w) :: m) = true ↔ lo ≤ k ∧ w ≠ Store.blank ∧ Store.wfFrom (k + 1) m = true := by
  simp [Store.wfFrom, and_assoc]

theorem Store.wfFrom_mono {lo lo' : Nat} (m : Store) (h : Store.wfFrom lo m = true) (hl : lo' ≤ lo) :
    Store.wfFrom lo' m = true := by
  cases m with
  | nil => rfl
  | cons c m =>
    obtain ⟨h1, h2, h3⟩ := (Store.wfFrom_cons lo c.1 c.2 m).1 h
    exact (Store.wfFrom_cons lo' c.1 c.2 m).2 ⟨by omega, h2, h3⟩

theorem Store.read_below {lo : Nat} (m : Store) (h : Store.wfFrom lo m = true) {a : Nat} (ha : a < lo) :
    Store.read m a = Store.blank := by
  induction m generalizing lo with
  | nil => rfl
  | cons c m ih =>
    obtain ⟨h1, h2, h3⟩ := (Store.wfFrom_cons lo c.1 c.2 m).1 h
    have hk : c.1 ≠ a := by omega
    simp only [Store.read, hk, if_false]
    exact ih h3 (by omega)

theorem Store.wfFrom_put {lo : Nat} (m : Store) (a : Nat) (v : Byte) (ha : lo ≤ a)
    (h : Store.wfFrom (a + 1) m = true) : Store.wfFrom lo (Store.put a v m) = true := by
  unfold Store.put
  split
  · exact Store.wfFrom_mono m h (by omega)
  · exact (Store.wfFrom_cons lo a v m).2 ⟨ha, by assumption, h⟩

theorem Store.read_put (m : Store) (a : Nat) (v : Byte) (h : Store.wfFrom (a + 1) m = true) (b : Nat) :
    Store.read (Store.put a v m) b = if b = a then v else Store.read m b := by
  unfold Store.put
  split
  · split
    · subst b; rw [Store.read_below m h (by omega)]; exact Eq.symm ‹_›
    · rfl
  · simp only [Store.read, eq_comm]

theorem Store.wfFrom_write {lo : Nat} (m : Store) (a : Nat) (v : Byte) (ha : lo ≤ a)
    (h : Store.wfFrom lo m = true) : Store.wfFrom lo (Store.write m a v) = true := by
  induction m generalizing lo with
  | nil => exact Store.wfFrom_put [] a v ha rfl
  | cons c m ih =>
    obtain ⟨h1, h2, h3⟩ := (Store.wfFrom_cons lo c.1 c.2 m).1 h
    simp only [Store.write]
    split
    · exact Store.wfFrom_put _ a v ha ((Store.wfFrom_cons _ c.1 c.2 m).2 ⟨by omega, h2, h3⟩)
    · split
      · subst a; exact Store.wfFrom_put m _ v ha h3
      · exact (Store.wfFrom_cons lo c.1 c.2 _).2 ⟨h1, h2, ih (by omega) h3⟩

theorem Store.read_write_from {lo : Nat} (m : Store) (a : Nat) (v : Byte)
    (h : Store.wfFrom lo m = true) (b : Nat) :
    Store.read (Store.write m a v) b = if b = a then v else Store.read m b := by
  induction m generalizing lo with
  | nil => exact Store.read_put [] a v rfl b
  | cons c m ih =>
    obtain ⟨h1, h2, h3⟩ := (Store.wfFrom_cons lo c.1 c.2 m).1 h
    simp only [Store.write]
    split
    · exact Store.read_put _ a v ((Store.wfFrom_cons _ c.1 c.2 m).2 ⟨by omega, h2, h3⟩) b
    · split
      · subst a
        rw [Store.read_put m _ v h3 b]
        split
        · rfl
        · rename_i hb; simp [Store.read, Ne.symm hb]
      · rename_i hne
        simp only [Store.read, ih h3]
        by_cases hb : c.1 = b
        · subst b; simp [Ne.symm hne]
        · simp [hb]

/-- Reading after a write: the value written at its place, what was there before elsewhere. -/
theorem Store.read_write (m : Store) (h : Store.wf m = true) (a : Nat) (v : Byte) (b : Nat) :
    Store.read (Store.write m a v) b = if b = a then v else Store.read m b :=
  Store.read_write_from m a v h b

/-- A write keeps the canonical form. -/
theorem Store.wf_write (m : Store) (h : Store.wf m = true) (a : Nat) (v : Byte) :
    Store.wf (Store.write m a v) = true := Store.wfFrom_write m a v (Nat.zero_le a) h

theorem Store.wf_nil : Store.wf [] = true := rfl

/-- Any list of bytes normalizes to the canonical form. -/
theorem Store.wf_normalize (m : Store) : Store.wf (Store.normalize m) = true := by
  unfold Store.normalize
  suffices h : ∀ (acc : Store), Store.wf acc = true →
      Store.wf (m.foldl (fun acc c => Store.write acc c.1 c.2) acc) = true from h [] rfl
  induction m with
  | nil => intro acc h; exact h
  | cons c m ih => intro acc h; exact ih _ (Store.wf_write acc h c.1 c.2)

theorem Store.ext_from {lo : Nat} (m n : Store) (hm : Store.wfFrom lo m = true)
    (hn : Store.wfFrom lo n = true) (h : ∀ a, Store.read m a = Store.read n a) : m = n := by
  induction m generalizing lo n with
  | nil =>
    cases n with
    | nil => rfl
    | cons d n =>
      obtain ⟨_, d2, _⟩ := (Store.wfFrom_cons lo d.1 d.2 n).1 hn
      have := h d.1
      simp only [Store.read, if_true] at this
      exact absurd this.symm d2
  | cons c m ih =>
    obtain ⟨c1, c2, c3⟩ := (Store.wfFrom_cons lo c.1 c.2 m).1 hm
    cases n with
    | nil =>
      have := h c.1
      simp only [Store.read, if_true] at this
      exact absurd this c2
    | cons d n =>
      obtain ⟨d1, d2, d3⟩ := (Store.wfFrom_cons lo d.1 d.2 n).1 hn
      have hk : c.1 = d.1 := by
        rcases Nat.lt_trichotomy c.1 d.1 with hlt | heq | hgt
        · have := h c.1
          simp only [Store.read, if_true, Nat.ne_of_gt hlt, if_false] at this
          exact absurd (this.trans (Store.read_below n d3 (by omega))) c2
        · exact heq
        · have := h d.1
          simp only [Store.read, if_true, Nat.ne_of_gt hgt, if_false] at this
          exact absurd (this.symm.trans (Store.read_below m c3 (by omega))) d2
      have hv : c.2 = d.2 := by
        have := h c.1
        simpa [Store.read, hk] using this
      have ht : m = n := by
        apply ih n c3 (hk ▸ d3)
        intro a
        by_cases ha : a = c.1
        · rw [Store.read_below m c3 (by omega), Store.read_below n d3 (by omega)]
        · have := h a
          simpa [Store.read, Ne.symm ha, ← hk] using this
      rw [ht, Prod.ext hk hv]

/-- Canonical stores with equal contents are equal data. -/
theorem Store.ext (m n : Store) (hm : Store.wf m = true) (hn : Store.wf n = true)
    (h : ∀ a, Store.read m a = Store.read n a) : m = n := Store.ext_from m n hm hn h

/-- A canonical store written cell by cell over another: its listed bytes win. -/
theorem Store.read_writeAll {lo : Nat} (m : Store) (hm : Store.wfFrom lo m = true) (acc : Store)
    (hacc : Store.wf acc = true) (b : Nat) :
    Store.read (m.foldl (fun acc c => Store.write acc c.1 c.2) acc) b =
      if Store.read m b = Store.blank then Store.read acc b else Store.read m b := by
  induction m generalizing lo acc with
  | nil => simp [Store.read]
  | cons c m ih =>
    obtain ⟨k, w⟩ := c
    rw [Store.wfFrom_cons] at hm
    have below := Store.read_below m hm.2.2 (Nat.lt_succ_self k)
    rw [List.foldl_cons, ih hm.2.2 _ (Store.wf_write acc hacc k w), Store.read_write acc hacc]
    by_cases hk : k = b
    · subst hk; simp [Store.read, below, hm.2.1]
    · simp [Store.read, hk, Ne.symm hk]

/-- Canonical bytes are what normalising gives. -/
theorem Store.normalize_eq (m : Store) (hm : Store.wf m = true) : Store.normalize m = m :=
  Store.ext _ _ (Store.wf_normalize m) hm fun b => by
    rw [Store.normalize, Store.read_writeAll m hm [] rfl]
    by_cases h : Store.read m b = Store.blank <;> simp [h, Store.read]

/-- The canonical form of every store at once. -/
theorem Memory.wf_iff (m : Memory) :
    m.wf = true ↔ Store.wf m.rom = true ∧ Store.wf m.vram = true ∧ Store.wf m.wram = true ∧
      Store.wf m.oam = true ∧ Store.wf m.hram = true ∧ Store.wf m.cartRam = true ∧
      Store.wf m.waveRam = true := by
  simp [Memory.wf, and_assoc]

end Sys2Proof.Machine
end

