-- ==== Sys2Proof/Laws/Bus.lean ====
section
/-! SUPPORT. What a CPU read and a CPU write can do: the fields a write never touches, the canonical
form it keeps, and the inversion of the read and write operations. -/

namespace Sys2Proof.Machine

variable (s : State) (a : Word) (v : Byte)

/-! ## Fields a write never touches -/

@[simp] theorem State.ioWrite_cpu (r : IoReg) : (s.ioWrite r v).cpu = s.cpu := by cases r <;> rfl
@[simp] theorem State.ioWrite_model (r : IoReg) : (s.ioWrite r v).model = s.model := by cases r <;> rfl
@[simp] theorem State.ioWrite_enable (r : IoReg) : (s.ioWrite r v).enable = s.enable := by
  cases r <;> rfl
@[simp] theorem State.ioWrite_cycles (r : IoReg) : (s.ioWrite r v).cycles = s.cycles := by
  cases r <;> rfl
@[simp] theorem State.ioWrite_fault (r : IoReg) : (s.ioWrite r v).fault = s.fault := by cases r <;> rfl
@[simp] theorem State.ioWrite_version (r : IoReg) : (s.ioWrite r v).version = s.version := by
  cases r <;> rfl
@[simp] theorem State.ioWrite_stepCost (r : IoReg) : (s.ioWrite r v).stepCost = s.stepCost := by
  cases r <;> rfl
@[simp] theorem State.ioWrite_draws (r : IoReg) : (s.ioWrite r v).draws = s.draws := by cases r <;> rfl
@[simp] theorem State.ioWrite_cart (r : IoReg) : (s.ioWrite r v).cart = s.cart := by cases r <;> rfl

@[simp] theorem State.storeByte_cpu : (s.storeByte a v).cpu = s.cpu := by
  unfold State.storeByte; split <;> (try split) <;> simp
@[simp] theorem State.storeByte_model : (s.storeByte a v).model = s.model := by
  unfold State.storeByte; split <;> (try split) <;> simp
@[simp] theorem State.storeByte_enable : (s.storeByte a v).enable = s.enable := by
  unfold State.storeByte; split <;> (try split) <;> simp
@[simp] theorem State.storeByte_cycles : (s.storeByte a v).cycles = s.cycles := by
  unfold State.storeByte; split <;> (try split) <;> simp
@[simp] theorem State.storeByte_fault : (s.storeByte a v).fault = s.fault := by
  unfold State.storeByte; split <;> (try split) <;> simp
@[simp] theorem State.storeByte_version : (s.storeByte a v).version = s.version := by
  unfold State.storeByte; split <;> (try split) <;> simp
@[simp] theorem State.storeByte_stepCost : (s.storeByte a v).stepCost = s.stepCost := by
  unfold State.storeByte; split <;> (try split) <;> simp
@[simp] theorem State.storeByte_draws : (s.storeByte a v).draws = s.draws := by
  unfold State.storeByte; split <;> (try split) <;> simp

/-- Rule R147: no CPU write changes the ROM image. -/
@[simp] theorem State.storeByte_rom : (s.storeByte a v).mem.rom = s.mem.rom := by
  unfold State.storeByte
  split <;> (try split) <;> try rfl
  rename_i r _
  cases r <;> rfl

/-! ## The canonical form -/

theorem State.ioWrite_wf (r : IoReg) (h : s.mem.wf = true) : (s.ioWrite r v).mem.wf = true := by
  cases r <;> try exact h
  rename_i k
  have hw := (Memory.wf_iff s.mem).1 h
  exact (Memory.wf_iff _).2 ⟨hw.1, hw.2.1, hw.2.2.1, hw.2.2.2.1, hw.2.2.2.2.1, hw.2.2.2.2.2.1,
    Store.wf_write _ hw.2.2.2.2.2.2 k v⟩

theorem cartRamStore_wf (c : Cartridge) (ram : Store) (h : Store.wf ram = true) :
    Store.wf (cartRamStore c ram a v) = true := by
  unfold cartRamStore
  split
  · exact h
  · exact h
  · exact Store.wf_write _ h _ _
  · exact Store.wf_write _ h _ _

/-- Every CPU write keeps the memories in canonical form. -/
theorem State.storeByte_wf (h : s.mem.wf = true) : (s.storeByte a v).mem.wf = true := by
  have hw := (Memory.wf_iff s.mem).1 h
  obtain ⟨h1, h2, h3, h4, h5, h6, h7⟩ := hw
  unfold State.storeByte
  split
  · exact h
  · split
    · exact h
    · exact (Memory.wf_iff _).2 ⟨h1, Store.wf_write _ h2 _ _, h3, h4, h5, h6, h7⟩
  · exact (Memory.wf_iff _).2 ⟨h1, h2, h3, h4, h5, cartRamStore_wf _ _ _ _ h6, h7⟩
  · exact (Memory.wf_iff _).2 ⟨h1, h2, Store.wf_write _ h3 _ _, h4, h5, h6, h7⟩
  · split
    · exact h
    · exact (Memory.wf_iff _).2 ⟨h1, h2, h3, Store.wf_write _ h4 _ _, h5, h6, h7⟩
  · exact h
  · exact State.ioWrite_wf s v _ h
  · exact (Memory.wf_iff _).2 ⟨h1, h2, h3, h4, Store.wf_write _ h5 _ _, h6, h7⟩
  · exact h

/-! ## Reads -/

/-- A CPU read looks at nothing but these fields. -/
theorem State.busRead_congr {s t : State} (h1 : t.ints = s.ints) (h2 : t.joypad = s.joypad)
    (h3 : t.serial = s.serial) (h4 : t.timer = s.timer) (h5 : t.dma = s.dma) (h6 : t.ppu = s.ppu)
    (h7 : t.apu = s.apu) (h8 : t.cart = s.cart) (h9 : t.mem = s.mem) (h10 : t.svbk = s.svbk)
    (h11 : t.model = s.model) (h12 : t.enable = s.enable) (h13 : t.cycles = s.cycles) (a : Word) :
    t.busRead a = s.busRead a := by
  rcases s with ⟨⟩
  rcases t with ⟨⟩
  dsimp only at h1 h2 h3 h4 h5 h6 h7 h8 h9 h10 h11 h12 h13
  subst h1 h2 h3 h4 h5 h6 h7 h8 h9 h10 h11 h12 h13
  rfl

@[simp] theorem State.busRead_withCpu (c : Cpu) : (s.withCpu c).busRead a = s.busRead a := rfl
@[simp] theorem State.busRead_addCost (k : Nat) : (s.addCost k).busRead a = s.busRead a := rfl
@[simp] theorem State.busRead_draws (n : Nat) : { s with draws := n }.busRead a = s.busRead a := rfl
@[simp] theorem State.busRead_startInstr (len cost : Nat) :
    (s.startInstr len cost).busRead a = s.busRead a := rfl

@[simp] theorem State.writeRefusal_withCpu (c : Cpu) :
    (s.withCpu c).writeRefusal a v = s.writeRefusal a v := rfl
@[simp] theorem State.writeRefusal_startInstr (len cost : Nat) :
    (s.startInstr len cost).writeRefusal a v = s.writeRefusal a v := rfl

variable {α : Type} (k : Byte → State → Answer α)

/-- What a read hands on, when it hands something on. -/
theorem withRead_of_readsAs {s s' : State} {a : Word} {v : Byte} (h : ReadsAs s a v s') :
    withRead a s k = k v s' := by
  rcases h with ⟨h1, rfl⟩ | ⟨h1, rfl, rfl⟩ <;> simp [withRead, h1]

/-- A read that does not stop the instruction reads a value or a draw. -/
theorem withRead_next {s : State} {a : Word} {t : α} (h : withRead a s k = .next t) :
    ∃ v s', ReadsAs s a v s' ∧ k v s' = .next t := by
  unfold withRead at h
  split at h
  · exact ⟨_, _, .inl ⟨by assumption, rfl⟩, h⟩
  · exact ⟨_, _, .inr ⟨by assumption, rfl, rfl⟩, h⟩
  · exact absurd h (by simp)

/-- Every read either is handed on or is refused. -/
theorem readsAs_or_refused (s : State) (a : Word) :
    (∃ v s', ReadsAs s a v s') ∨ ∃ r, s.busRead a = .refused r := by
  cases h : s.busRead a with
  | value v => exact .inl ⟨v, s, .inl ⟨h, rfl⟩⟩
  | drawn => exact .inl ⟨_, _, .inr ⟨h, rfl, rfl⟩⟩
  | refused r => exact .inr ⟨r, rfl⟩

theorem ReadsAs.state {s s' : State} {a : Word} {v : Byte} (h : ReadsAs s a v s') :
    s' = { s with draws := s'.draws } := by
  rcases h with ⟨-, rfl⟩ | ⟨-, -, rfl⟩ <;> rfl

/-! ## Writes -/

/-- A write that does not stop the instruction is the store. -/
theorem writeByte_next {s t : State} {a : Word} {v : Byte} :
    writeByte a v s = .next t ↔ s.writeRefusal a v = none ∧ t = s.storeByte a v := by
  cases h : s.writeRefusal a v <;> simp [writeByte, h, eq_comm]

theorem writeByte_of_none {s : State} {a : Word} {v : Byte} (h : s.writeRefusal a v = none) :
    writeByte a v s = .next (s.storeByte a v) := by simp [writeByte, h]

theorem writeByte_refused {s : State} {a : Word} {v : Byte} {r : Refusal} :
    writeByte a v s = .refused r ↔ s.writeRefusal a v = some r := by
  unfold writeByte
  split <;> simp_all

theorem writeByte_fault {s : State} {a : Word} {v : Byte} {f : Fault} : writeByte a v s ≠ .fault f := by
  unfold writeByte
  split <;> simp

/-- What a chain of results can be. -/
theorem chain_next {r : Result} {k : State → Answer α} {t : α} :
    chain r k = .next t ↔ ∃ u, r = .next u ∧ k u = .next t := by
  cases r <;> simp [chain]

theorem chain_refused {r : Result} {k : State → Answer α} {q : Refusal} :
    chain r k = .refused q ↔ r = .refused q ∨ ∃ u, r = .next u ∧ k u = .refused q := by
  cases r <;> simp [chain]

theorem chain_fault {r : Result} {k : State → Answer α} {f : Fault} :
    chain r k = .fault f ↔ r = .fault f ∨ ∃ u, r = .next u ∧ k u = .fault f := by
  cases r <;> simp [chain]

@[simp] theorem chain_of_next (u : State) (k : State → Answer α) : chain (.next u) k = k u := rfl

/-- Rule R11 `push16`, when neither write is refused. -/
theorem pushWord_next {s t : State} {v : Word} (h : pushWord v s = .next t) :
    ∃ u, u = (s.setSp (s.cpu.sp - 1)).storeByte (s.cpu.sp - 1) (hiByte v) ∧
      (s.setSp (s.cpu.sp - 1)).writeRefusal (s.cpu.sp - 1) (hiByte v) = none ∧
      (u.setSp (s.cpu.sp - 1 - 1)).writeRefusal (s.cpu.sp - 1 - 1) (loByte v) = none ∧
      t = (u.setSp (s.cpu.sp - 1 - 1)).storeByte (s.cpu.sp - 1 - 1) (loByte v) := by
  obtain ⟨u, h1, h2⟩ := chain_next.1 h
  obtain ⟨h3, rfl⟩ := writeByte_next.1 h1
  obtain ⟨h4, rfl⟩ := writeByte_next.1 h2
  exact ⟨_, rfl, h3, by simpa using h4, by simp⟩

end Sys2Proof.Machine
end

