-- ==== Sys2Proof/Laws/Devices.lean ====
section
/-! SUPPORT. Every device keeps its legal ranges: under its tick and under every CPU write to it. -/

namespace Sys2Proof.Machine

/-! ## Timer -/

theorem Timer.legal_iff (t : Timer) : t.legal = true ↔ t.reload ≤ 4 ∧ t.inPrev = t.input := by
  simp [Timer.legal]

theorem Timer.increment_input (t : Timer) : t.increment.input = t.input := by
  unfold Timer.increment; split <;> rfl

theorem Timer.increment_reload (t : Timer) (h : t.reload ≤ 4) : t.increment.reload ≤ 4 := by
  unfold Timer.increment; split <;> simp [h]

theorem Timer.legal_edge (t : Timer) (h : t.reload ≤ 4) : t.edge.legal = true := by
  unfold Timer.edge
  split
  · exact (Timer.legal_iff _).2 ⟨t.increment_reload h, t.increment_input.symm⟩
  · exact (Timer.legal_iff _).2 ⟨h, rfl⟩

theorem Timer.window_reload (t : Timer) (h : t.reload ≤ 4) : t.window.1.reload ≤ 4 := by
  unfold Timer.window
  split <;> simp_all
  omega

theorem Timer.legal_tick (t : Timer) (h : t.legal = true) : t.tick.1.legal = true :=
  Timer.legal_edge _ (t.window_reload ((Timer.legal_iff t).1 h).1)

theorem Timer.legal_settle (b : Bool) (t : Timer) (h : t.reload ≤ 4) :
    (Timer.settle b t).legal = true := by
  unfold Timer.settle
  split
  · exact t.legal_edge h
  · exact (Timer.legal_iff _).2 ⟨h, rfl⟩

theorem Timer.legal_divReset (b : Bool) (t : Timer) (h : t.legal = true) :
    (t.divReset b).legal = true := Timer.legal_settle b _ ((Timer.legal_iff t).1 h).1

theorem Timer.legal_writeTac (b : Bool) (v : Byte) (t : Timer) (h : t.legal = true) :
    (t.writeTac b v).legal = true := Timer.legal_settle b _ ((Timer.legal_iff t).1 h).1

theorem Timer.legal_writeTima (v : Byte) (t : Timer) (h : t.legal = true) :
    (t.writeTima v).legal = true :=
  (Timer.legal_iff _).2 ⟨Nat.zero_le 4, ((Timer.legal_iff t).1 h).2⟩

theorem Timer.legal_writeTma (v : Byte) (t : Timer) (h : t.legal = true) :
    (t.writeTma v).legal = true := (Timer.legal_iff _).2 ((Timer.legal_iff t).1 h)

/-! ## Serial -/

theorem Serial.legal_iff (s : Serial) : s.legal = true ↔ s.bits < 8 ∧ s.clock < 512 := by
  simp [Serial.legal]

theorem Serial.legal_shiftBit (s : Serial) (h : s.legal = true) : s.shiftBit.1.legal = true := by
  have hs := (Serial.legal_iff s).1 h
  unfold Serial.shiftBit
  split
  · exact (Serial.legal_iff _).2 ⟨by simp, hs.2⟩
  · exact (Serial.legal_iff _).2 ⟨by simp only; omega, hs.2⟩

theorem Serial.legal_tick (now : Nat) (s : Serial) (h : s.legal = true) :
    (s.tick now).1.legal = true := by
  have hs := (Serial.legal_iff s).1 h
  unfold Serial.tick
  split
  · exact h
  · split
    · split
      · exact Serial.legal_shiftBit _ ((Serial.legal_iff _).2 ⟨hs.1, by simp⟩)
      · exact (Serial.legal_iff _).2 ⟨hs.1, by simp only; omega⟩
    · split
      · exact s.legal_shiftBit h
      · exact h

theorem Serial.legal_writeSc (v : Byte) (s : Serial) (h : s.legal = true) :
    (s.writeSc v).legal = true := by
  have hs := (Serial.legal_iff s).1 h
  unfold Serial.writeSc
  split
  · exact (Serial.legal_iff _).2 ⟨by simp, by simp⟩
  · exact (Serial.legal_iff _).2 hs

/-! ## OAM-DMA -/

theorem Dma.legal_iff (d : Dma) :
    d.legal = true ↔ d.sub < 4 ∧ d.index ≤ 160 ∧ (d.active = true → d.index < 160) ∧
      loByte d.source = 0 := by
  cases h : d.active <;> simp [Dma.legal, h, and_assoc]

theorem Dma.legal_trigger (b : Bool) (v : Byte) (d : Dma) (h : d.legal = true) :
    (d.trigger b v).legal = true := by
  unfold Dma.trigger
  split
  · exact (Dma.legal_iff _).2 ⟨by simp, by simp, by simp, by simp⟩
  · exact (Dma.legal_iff _).2 ((Dma.legal_iff d).1 h)

theorem State.dmaTick_legal (s : State) (h : s.dma.legal = true) : s.dmaTick.dma.legal = true := by
  have hd := (Dma.legal_iff _).1 h
  unfold State.dmaTick
  split
  · exact h
  · rename_i ha
    have hi := hd.2.2.1 (by simpa using ha)
    split
    · refine (Dma.legal_iff _).2 ⟨by simp [State.dmaCopy], ?_, ?_, hd.2.2.2⟩
      · simp only [State.dmaCopy]; omega
      · simp only [State.dmaCopy, Bool.not_eq_true', beq_eq_false_iff_ne]; omega
    · exact (Dma.legal_iff _).2 ⟨by simp only; omega, hd.2.1, hd.2.2.1, hd.2.2.2⟩

/-! ## Cartridge -/

theorem Mapper.legal_mbc1 (m : Mbc1) (a : Word) (v : Byte) (h : (Mapper.mbc1 m).legal = true) :
    (Mapper.mbc1 (m.control a v)).legal = true := by
  unfold Mbc1.control
  split
  · exact h
  · split
    · simp only [Mapper.legal, bne_iff_ne, ne_eq]
      split
      · decide
      · assumption
    · split <;> exact h

theorem Mapper.legal_mbc2 (m : Mbc2) (a : Word) (v : Byte) (h : (Mapper.mbc2 m).legal = true) :
    (Mapper.mbc2 (m.control a v)).legal = true := by
  unfold Mbc2.control
  split
  · split
    · simp only [Mapper.legal, bne_iff_ne, ne_eq]
      split
      · decide
      · assumption
    · exact h
  · exact h

theorem Mapper.legal_mbc3_iff (m : Mbc3) :
    (Mapper.mbc3 m).legal = true ↔ m.romBank ≠ 0 ∧ m.sub < Config.clockFrequency := by
  simp [Mapper.legal]

/-- A clock loaded within its range keeps a mapper legal. -/
theorem Mapper.legal_withRtc (r : RtcImage) (hr : r.sub < Config.clockFrequency) (m : Mapper)
    (h : m.legal = true) : (m.withRtc r).legal = true := by
  cases m with
  | mbc3 m =>
    simp only [Mapper.withRtc]
    split
    · exact (Mapper.legal_mbc3_iff _).2 ⟨((Mapper.legal_mbc3_iff m).1 h).1, hr⟩
    · exact h
  | none => exact h
  | mbc1 m => exact h
  | mbc2 m => exact h
  | mbc5 m => exact h

theorem Mapper.legal_mbc3 (m : Mbc3) (a : Word) (v : Byte) (h : (Mapper.mbc3 m).legal = true) :
    (Mapper.mbc3 (m.control a v)).legal = true := by
  have hm := (Mapper.legal_mbc3_iff m).1 h
  unfold Mbc3.control
  split
  · exact h
  · split
    · refine (Mapper.legal_mbc3_iff _).2 ⟨?_, hm.2⟩
      simp only [ne_eq]
      split
      · decide
      · assumption
    · split
      · exact h
      · unfold Mbc3.latch
        split
        · exact h
        · split <;> exact h

theorem Cartridge.legal_control (c : Cartridge) (a : Word) (v : Byte) (h : c.mapper.legal = true) :
    (c.control a v).mapper.legal = true := by
  unfold Cartridge.control
  split <;> rename_i hm <;> rw [hm] at h
  · rw [hm]; exact h
  · exact Mapper.legal_mbc1 _ a v h
  · exact Mapper.legal_mbc2 _ a v h
  · exact Mapper.legal_mbc3 _ a v h
  · rfl

theorem Cartridge.legal_clockWrite (c : Cartridge) (r : RtcReg) (v : Byte)
    (h : c.mapper.legal = true) : (c.clockWrite r v).mapper.legal = true := by
  unfold Cartridge.clockWrite
  split
  · rename_i m hm
    rw [hm] at h
    have hl := (Mapper.legal_mbc3_iff m).1 h
    refine (Mapper.legal_mbc3_iff _).2 ⟨hl.1, ?_⟩
    cases r <;> simp only [Mbc3.clockWrite] <;> first | exact hl.2 | decide
  all_goals exact h

theorem cartRamControl_legal (c : Cartridge) (a : Word) (v : Byte) (h : c.mapper.legal = true) :
    (cartRamControl c a v).mapper.legal = true := by
  unfold cartRamControl
  split
  · exact h
  · exact h
  · exact h
  · exact c.legal_clockWrite _ v h

theorem Cartridge.legal_rtcTick (c : Cartridge) (h : c.mapper.legal = true) :
    c.rtcTick.mapper.legal = true := by
  unfold Cartridge.rtcTick
  split
  · rename_i m hm
    rw [hm] at h
    have hl := (Mapper.legal_mbc3_iff m).1 h
    split
    · refine (Mapper.legal_mbc3_iff _).2 ?_
      unfold Mbc3.clockTick
      split
      · exact hl
      · split
        · exact ⟨hl.1, by simp [Config.clockFrequency]⟩
        · exact ⟨hl.1, by simp only; omega⟩
    · rw [hm]; exact h
  all_goals exact h

/-! ## PPU -/

theorem Ppu.legal_iff (p : Ppu) :
    p.legal = true ↔ p.ly < 154 ∧ p.dot < 456 ∧ 172 ≤ p.mode3Len ∧ p.mode3Len ≤ 375 ∧
      p.lcdOn = p.lcdc.getLsbD 7 ∧
      (p.lcdOn = true → p.mode = modeOf p.ly p.dot p.mode3Len) ∧
      (p.lcdOn = false → p.ly = 0 ∧ p.dot = 0 ∧ p.mode = .hblank ∧ p.statLine = false) ∧
      p.framebuffer.length = 144 ∧ ∀ row ∈ p.framebuffer, row.length = 160 := by
  cases h : p.lcdOn <;> simp [Ppu.legal, h, and_assoc]

theorem Ppu.legal_writeLcdc (v : Byte) (p : Ppu) (h : p.legal = true) :
    (p.writeLcdc v).legal = true := by
  obtain ⟨h1, h2, h3, h4, h5, h6, h7, h8, h9⟩ := (Ppu.legal_iff p).1 h
  unfold Ppu.writeLcdc
  split
  · rename_i hc
    simp only [Bool.and_eq_true, Bool.not_eq_true'] at hc
    exact (Ppu.legal_iff _).2 ⟨by simp, by simp, h3, h4, hc.2.symm, by simp, by simp, h8, h9⟩
  · split
    · rename_i hc
      simp only [Bool.and_eq_true, Bool.not_eq_true'] at hc
      exact (Ppu.legal_iff _).2 ⟨by simp, by simp, by simp, by simp, hc.2.symm, by simp [modeOf],
        by simp, h8, h9⟩
    · rename_i hn1 hn2
      refine (Ppu.legal_iff _).2 ⟨h1, h2, h3, h4, ?_, h6, h7, h8, h9⟩
      revert hn1 hn2
      cases p.lcdOn <;> cases v.getLsbD 7 <;> simp

theorem Ppu.penalty_le (p : Ppu) (oam : Store) : p.penalty oam ≤ 203 := by
  unfold Ppu.penalty
  split
  · exact Nat.min_le_right _ _
  · exact Nat.zero_le _

theorem Ppu.composeRow_length (p : Ppu) (vram oam : Store) (y : Nat) :
    (p.composeRow vram oam y).length = 160 := by simp [Ppu.composeRow]

theorem drawnRow_length (n : Nat) : (drawnRow n).length = 160 := by simp [drawnRow]

/-- The window's part of a line composition changes only its own bookkeeping. -/
theorem Ppu.windowCount_eq (q : Ppu) : ∃ wl, q.windowCount = { q with windowLine := wl } := by
  unfold Ppu.windowCount
  split
  · exact ⟨_, rfl⟩
  · exact ⟨q.windowLine, rfl⟩

theorem Ppu.windowMatch_eq (q : Ppu) : ∃ hit, q.windowMatch = { q with windowYHit := hit } := by
  unfold Ppu.windowMatch
  split
  · exact ⟨_, rfl⟩
  · exact ⟨q.windowYHit, rfl⟩

/-- A line composition changes only the window bookkeeping and one row of the framebuffer. -/
theorem Ppu.renderLine_eq (model : ConsoleMode) (draws : Nat) (vram oam : Store) (p : Ppu) :
    ∃ row wl hit, row.length = 160 ∧ p.renderLine model draws vram oam =
      { p with framebuffer := p.framebuffer.set p.ly row, windowLine := wl, windowYHit := hit } := by
  obtain ⟨hit, hh⟩ := p.windowMatch_eq
  unfold Ppu.renderLine
  rw [hh]
  have key : ∀ row : List Rgb, ∃ wl, Ppu.windowCount
      { p with windowYHit := hit, framebuffer := p.framebuffer.set p.ly row } =
      { p with framebuffer := p.framebuffer.set p.ly row, windowLine := wl, windowYHit := hit } := by
    intro row
    obtain ⟨wl, hw⟩ := Ppu.windowCount_eq
      { p with windowYHit := hit, framebuffer := p.framebuffer.set p.ly row }
    exact ⟨wl, hw⟩
  cases model
  case cgb => exact ⟨_, _, hit, drawnRow_length draws, (key _).choose_spec⟩
  all_goals exact ⟨_, _, hit, Ppu.composeRow_length _ vram oam _, (key _).choose_spec⟩

theorem Ppu.advance_fields (p : Ppu) (h1 : p.ly < 154) (h2 : p.dot < 456) :
    p.advance.ly < 154 ∧ p.advance.dot < 456 ∧ p.advance.mode3Len = p.mode3Len ∧
      p.advance.lcdOn = p.lcdOn ∧ p.advance.lcdc = p.lcdc ∧
      p.advance.framebuffer = p.framebuffer ∧ p.advance.mode = p.mode ∧
      p.advance.statLine = p.statLine := by
  unfold Ppu.advance
  split
  · split
    · exact ⟨by simp, by simp, rfl, rfl, rfl, rfl, rfl, rfl⟩
    · exact ⟨by simp only; omega, by simp, rfl, rfl, rfl, rfl, rfl, rfl⟩
  · exact ⟨h1, by simp only; omega, rfl, rfl, rfl, rfl, rfl, rfl⟩

theorem Ppu.latchLength_fields (oam : Store) (p : Ppu) :
    ∃ m, p.latchLength oam = { p with mode3Len := m } ∧
      (172 ≤ p.mode3Len → p.mode3Len ≤ 375 → 172 ≤ m ∧ m ≤ 375) := by
  unfold Ppu.latchLength
  split
  · exact ⟨_, rfl, fun _ _ => ⟨by omega, by have := p.penalty_le oam; omega⟩⟩
  · exact ⟨p.mode3Len, rfl, fun a b => ⟨a, b⟩⟩

theorem Ppu.framebuffer_set (fb : List (List Rgb)) (k : Nat) (row : List Rgb) (h : fb.length = 144)
    (hr : ∀ r ∈ fb, r.length = 160) (hrow : row.length = 160) :
    (fb.set k row).length = 144 ∧ ∀ r ∈ fb.set k row, r.length = 160 := by
  refine ⟨by simp [h], fun r hm => ?_⟩
  rcases List.mem_or_eq_of_mem_set hm with h1 | h1
  · exact hr r h1
  · exact h1 ▸ hrow

theorem Ppu.legal_run (model : ConsoleMode) (draws : Nat) (vram oam : Store) (p : Ppu)
    (h : p.legal = true) (hon : p.lcdOn = true) : (p.run model draws vram oam).ppu.legal = true := by
  obtain ⟨h1, h2, h3, h4, h5, h6, h7, h8, h9⟩ := (Ppu.legal_iff p).1 h
  obtain ⟨a1, a2, a3, a4, a5, a6, a7, a8⟩ := p.advance_fields h1 h2
  obtain ⟨m, hm, hb⟩ := p.advance.latchLength_fields oam
  obtain ⟨b1, b2⟩ := hb (by omega) (by omega)
  unfold Ppu.run Ppu.settle
  rw [hm]
  dsimp only
  obtain ⟨row, wl, hit, hr, hrl⟩ := Ppu.renderLine_eq model draws vram oam
    { p.advance with mode3Len := m }
  have hf := Ppu.framebuffer_set p.framebuffer p.advance.ly row h8 h9 hr
  rw [hrl]
  by_cases hc : Ppu.composes { p.advance with mode3Len := m }
      (modeOf p.advance.ly p.advance.dot m) = true
  · simp only [hc, if_true]
    split <;>
    · refine (Ppu.legal_iff _).2 ⟨a1, a2, b1, b2, by simp only; rw [a4, a5]; exact h5,
        by simp, by simp [a4, hon], ?_, ?_⟩
      · simp only [a6]; exact hf.1
      · simp only [a6]; exact hf.2
  · simp only [hc]
    simp only [Bool.false_eq_true, if_false]
    split <;>
    · refine (Ppu.legal_iff _).2 ⟨a1, a2, b1, b2, by simp only; rw [a4, a5]; exact h5,
        by simp, by simp [a4, hon], ?_, ?_⟩
      · simp only [a6]; exact h8
      · simp only [a6]; exact h9

theorem Ppu.legal_tick (model : ConsoleMode) (draws : Nat) (vram oam : Store) (p : Ppu)
    (h : p.legal = true) : (p.tick model draws vram oam).ppu.legal = true := by
  unfold Ppu.tick
  split
  · exact p.legal_run model draws vram oam h (by assumption)
  · exact h

end Sys2Proof.Machine
end

