-- ==== Sys2Proof/Laws/Families.lean ====
section
/-! SUPPORT. The instructions by family: to show something of every instruction it is enough to show it
of each operand family of rules R224-R229 and of the instructions that belong to none. -/

namespace Sys2Proof

theorem Instr.byFamily {P : Instr → Prop}
    (h_ldRegReg : ∀ (r q : Reg8), P (Instr.ldRegReg r q))
    (h_ldRegMem : ∀ (r : Reg8), P (Instr.ldRegMem r))
    (h_ldMemReg : ∀ (r : Reg8), P (Instr.ldMemReg r))
    (h_ldRegImm : ∀ (r : Reg8) (n : Byte), P (Instr.ldRegImm r n))
    (h_aluReg : ∀ (o : AluOp) (r : Reg8), P (Instr.aluReg o r))
    (h_aluMem : ∀ (o : AluOp), P (Instr.aluMem o))
    (h_aluImm : ∀ (o : AluOp) (n : Byte), P (Instr.aluImm o n))
    (h_incReg : ∀ (r : Reg8), P (Instr.incReg r))
    (h_decReg : ∀ (r : Reg8), P (Instr.decReg r))
    (h_ldPairImm : ∀ (p : Reg16) (nn : Word), P (Instr.ldPairImm p nn))
    (h_addHlPair : ∀ (p : Reg16), P (Instr.addHlPair p))
    (h_incPair : ∀ (p : Reg16), P (Instr.incPair p))
    (h_decPair : ∀ (p : Reg16), P (Instr.decPair p))
    (h_pushPair : ∀ (p : StackPair), P (Instr.pushPair p))
    (h_popPair : ∀ (p : StackPair), P (Instr.popPair p))
    (h_jpCond : ∀ (cc : Cond) (nn : Word), P (Instr.jpCond cc nn))
    (h_jrCond : ∀ (cc : Cond) (e : Int), P (Instr.jrCond cc e))
    (h_callCond : ∀ (cc : Cond) (nn : Word), P (Instr.callCond cc nn))
    (h_retCond : ∀ (cc : Cond), P (Instr.retCond cc))
    (h_rstVec : ∀ (y : Field3), P (Instr.rstVec y))
    (h_shiftReg : ∀ (o : ShiftOp) (r : Reg8), P (Instr.shiftReg o r))
    (h_shiftMem : ∀ (o : ShiftOp), P (Instr.shiftMem o))
    (h_bitReg : ∀ (b : Field3) (r : Reg8), P (Instr.bitReg b r))
    (h_bitMem : ∀ (b : Field3), P (Instr.bitMem b))
    (h_resReg : ∀ (b : Field3) (r : Reg8), P (Instr.resReg b r))
    (h_resMem : ∀ (b : Field3), P (Instr.resMem b))
    (h_setReg : ∀ (b : Field3) (r : Reg8), P (Instr.setReg b r))
    (h_setMem : ∀ (b : Field3), P (Instr.setMem b))
    (h_illegal : ∀ (o : IllegalOp), P (Instr.illegal o))
    (h_nop : P .nop)
    (h_ldMbcA : P .ldMbcA)
    (h_rlca : P .rlca)
    (h_ldMnnSp : ∀ (nn : Word), P (.ldMnnSp nn))
    (h_ldAMbc : P .ldAMbc)
    (h_rrca : P .rrca)
    (h_stop : ∀ (n : Byte), P (.stop n))
    (h_ldMdeA : P .ldMdeA)
    (h_rla : P .rla)
    (h_jrE : ∀ (e : Int), P (.jrE e))
    (h_ldAMde : P .ldAMde)
    (h_rra : P .rra)
    (h_ldMhliA : P .ldMhliA)
    (h_daa : P .daa)
    (h_ldAMhli : P .ldAMhli)
    (h_cpl : P .cpl)
    (h_ldMhldA : P .ldMhldA)
    (h_incMhl : P .incMhl)
    (h_decMhl : P .decMhl)
    (h_ldMhlN : ∀ (n : Byte), P (.ldMhlN n))
    (h_scf : P .scf)
    (h_ldAMhld : P .ldAMhld)
    (h_ccf : P .ccf)
    (h_halt : P .halt)
    (h_jpNn : ∀ (nn : Word), P (.jpNn nn))
    (h_ret : P .ret)
    (h_callNn : ∀ (nn : Word), P (.callNn nn))
    (h_reti : P .reti)
    (h_ldhMnA : ∀ (n : Byte), P (.ldhMnA n))
    (h_ldhMcA : P .ldhMcA)
    (h_addSpE : ∀ (e : Int), P (.addSpE e))
    (h_jpHl : P .jpHl)
    (h_ldMnnA : ∀ (nn : Word), P (.ldMnnA nn))
    (h_ldhAMn : ∀ (n : Byte), P (.ldhAMn n))
    (h_ldhAMc : P .ldhAMc)
    (h_di : P .di)
    (h_ldHlSpE : ∀ (e : Int), P (.ldHlSpE e))
    (h_ldSpHl : P .ldSpHl)
    (h_ldAMnn : ∀ (nn : Word), P (.ldAMnn nn))
    (h_ei : P .ei)
    (i : Instr) : P i :=
  Instr.casesOn i
    (fun nn => h_ldPairImm .bc nn)
    (fun n => h_ldRegImm .b n)
    h_ldMnnSp
    (fun n => h_ldRegImm .c n)
    h_stop
    (fun nn => h_ldPairImm .de nn)
    (fun n => h_ldRegImm .d n)
    h_jrE
    (fun n => h_ldRegImm .e n)
    (fun e => h_jrCond .nz e)
    (fun nn => h_ldPairImm .hl nn)
    (fun n => h_ldRegImm .h n)
    (fun e => h_jrCond .z e)
    (fun n => h_ldRegImm .l n)
    (fun e => h_jrCond .nc e)
    (fun nn => h_ldPairImm .sp nn)
    h_ldMhlN
    (fun e => h_jrCond .c e)
    (fun n => h_ldRegImm .a n)
    (fun nn => h_jpCond .nz nn)
    h_jpNn
    (fun nn => h_callCond .nz nn)
    (fun n => h_aluImm .add n)
    (fun nn => h_jpCond .z nn)
    (fun nn => h_callCond .z nn)
    h_callNn
    (fun n => h_aluImm .adc n)
    (fun nn => h_jpCond .nc nn)
    (fun nn => h_callCond .nc nn)
    (fun n => h_aluImm .sub n)
    (fun nn => h_jpCond .c nn)
    (fun nn => h_callCond .c nn)
    (fun n => h_aluImm .sbc n)
    h_ldhMnA
    (fun n => h_aluImm .and n)
    h_addSpE
    h_ldMnnA
    (fun n => h_aluImm .xor n)
    h_ldhAMn
    (fun n => h_aluImm .or n)
    h_ldHlSpE
    h_ldAMnn
    (fun n => h_aluImm .cp n)
    h_nop
    h_ldMbcA
    (h_incPair .bc)
    (h_incReg .b)
    (h_decReg .b)
    h_rlca
    (h_addHlPair .bc)
    h_ldAMbc
    (h_decPair .bc)
    (h_incReg .c)
    (h_decReg .c)
    h_rrca
    h_ldMdeA
    (h_incPair .de)
    (h_incReg .d)
    (h_decReg .d)
    h_rla
    (h_addHlPair .de)
    h_ldAMde
    (h_decPair .de)
    (h_incReg .e)
    (h_decReg .e)
    h_rra
    h_ldMhliA
    (h_incPair .hl)
    (h_incReg .h)
    (h_decReg .h)
    h_daa
    (h_addHlPair .hl)
    h_ldAMhli
    (h_decPair .hl)
    (h_incReg .l)
    (h_decReg .l)
    h_cpl
    h_ldMhldA
    (h_incPair .sp)
    h_incMhl
    h_decMhl
    h_scf
    (h_addHlPair .sp)
    h_ldAMhld
    (h_decPair .sp)
    (h_incReg .a)
    (h_decReg .a)
    h_ccf
    (h_ldRegReg .b .b)
    (h_ldRegReg .b .c)
    (h_ldRegReg .b .d)
    (h_ldRegReg .b .e)
    (h_ldRegReg .b .h)
    (h_ldRegReg .b .l)
    (h_ldRegMem .b)
    (h_ldRegReg .b .a)
    (h_ldRegReg .c .b)
    (h_ldRegReg .c .c)
    (h_ldRegReg .c .d)
    (h_ldRegReg .c .e)
    (h_ldRegReg .c .h)
    (h_ldRegReg .c .l)
    (h_ldRegMem .c)
    (h_ldRegReg .c .a)
    (h_ldRegReg .d .b)
    (h_ldRegReg .d .c)
    (h_ldRegReg .d .d)
    (h_ldRegReg .d .e)
    (h_ldRegReg .d .h)
    (h_ldRegReg .d .l)
    (h_ldRegMem .d)
    (h_ldRegReg .d .a)
    (h_ldRegReg .e .b)
    (h_ldRegReg .e .c)
    (h_ldRegReg .e .d)
    (h_ldRegReg .e .e)
    (h_ldRegReg .e .h)
    (h_ldRegReg .e .l)
    (h_ldRegMem .e)
    (h_ldRegReg .e .a)
    (h_ldRegReg .h .b)
    (h_ldRegReg .h .c)
    (h_ldRegReg .h .d)
    (h_ldRegReg .h .e)
    (h_ldRegReg .h .h)
    (h_ldRegReg .h .l)
    (h_ldRegMem .h)
    (h_ldRegReg .h .a)
    (h_ldRegReg .l .b)
    (h_ldRegReg .l .c)
    (h_ldRegReg .l .d)
    (h_ldRegReg .l .e)
    (h_ldRegReg .l .h)
    (h_ldRegReg .l .l)
    (h_ldRegMem .l)
    (h_ldRegReg .l .a)
    (h_ldMemReg .b)
    (h_ldMemReg .c)
    (h_ldMemReg .d)
    (h_ldMemReg .e)
    (h_ldMemReg .h)
    (h_ldMemReg .l)
    h_halt
    (h_ldMemReg .a)
    (h_ldRegReg .a .b)
    (h_ldRegReg .a .c)
    (h_ldRegReg .a .d)
    (h_ldRegReg .a .e)
    (h_ldRegReg .a .h)
    (h_ldRegReg .a .l)
    (h_ldRegMem .a)
    (h_ldRegReg .a .a)
    (h_aluReg .add .b)
    (h_aluReg .add .c)
    (h_aluReg .add .d)
    (h_aluReg .add .e)
    (h_aluReg .add .h)
    (h_aluReg .add .l)
    (h_aluMem .add)
    (h_aluReg .add .a)
    (h_aluReg .adc .b)
    (h_aluReg .adc .c)
    (h_aluReg .adc .d)
    (h_aluReg .adc .e)
    (h_aluReg .adc .h)
    (h_aluReg .adc .l)
    (h_aluMem .adc)
    (h_aluReg .adc .a)
    (h_aluReg .sub .b)
    (h_aluReg .sub .c)
    (h_aluReg .sub .d)
    (h_aluReg .sub .e)
    (h_aluReg .sub .h)
    (h_aluReg .sub .l)
    (h_aluMem .sub)
    (h_aluReg .sub .a)
    (h_aluReg .sbc .b)
    (h_aluReg .sbc .c)
    (h_aluReg .sbc .d)
    (h_aluReg .sbc .e)
    (h_aluReg .sbc .h)
    (h_aluReg .sbc .l)
    (h_aluMem .sbc)
    (h_aluReg .sbc .a)
    (h_aluReg .and .b)
    (h_aluReg .and .c)
    (h_aluReg .and .d)
    (h_aluReg .and .e)
    (h_aluReg .and .h)
    (h_aluReg .and .l)
    (h_aluMem .and)
    (h_aluReg .and .a)
    (h_aluReg .xor .b)
    (h_aluReg .xor .c)
    (h_aluReg .xor .d)
    (h_aluReg .xor .e)
    (h_aluReg .xor .h)
    (h_aluReg .xor .l)
    (h_aluMem .xor)
    (h_aluReg .xor .a)
    (h_aluReg .or .b)
    (h_aluReg .or .c)
    (h_aluReg .or .d)
    (h_aluReg .or .e)
    (h_aluReg .or .h)
    (h_aluReg .or .l)
    (h_aluMem .or)
    (h_aluReg .or .a)
    (h_aluReg .cp .b)
    (h_aluReg .cp .c)
    (h_aluReg .cp .d)
    (h_aluReg .cp .e)
    (h_aluReg .cp .h)
    (h_aluReg .cp .l)
    (h_aluMem .cp)
    (h_aluReg .cp .a)
    (h_retCond .nz)
    (h_popPair .bc)
    (h_pushPair .bc)
    (h_rstVec .f0)
    (h_retCond .z)
    h_ret
    (h_rstVec .f1)
    (h_retCond .nc)
    (h_popPair .de)
    (h_illegal .d3)
    (h_pushPair .de)
    (h_rstVec .f2)
    (h_retCond .c)
    h_reti
    (h_illegal .db)
    (h_illegal .dd)
    (h_rstVec .f3)
    (h_popPair .hl)
    h_ldhMcA
    (h_illegal .e3)
    (h_illegal .e4)
    (h_pushPair .hl)
    (h_rstVec .f4)
    h_jpHl
    (h_illegal .eb)
    (h_illegal .ec)
    (h_illegal .ed)
    (h_rstVec .f5)
    (h_popPair .af)
    h_ldhAMc
    h_di
    (h_illegal .f4)
    (h_pushPair .af)
    (h_rstVec .f6)
    h_ldSpHl
    h_ei
    (h_illegal .fc)
    (h_illegal .fd)
    (h_rstVec .f7)
    (h_shiftReg .rlc .b)
    (h_shiftReg .rlc .c)
    (h_shiftReg .rlc .d)
    (h_shiftReg .rlc .e)
    (h_shiftReg .rlc .h)
    (h_shiftReg .rlc .l)
    (h_shiftMem .rlc)
    (h_shiftReg .rlc .a)
    (h_shiftReg .rrc .b)
    (h_shiftReg .rrc .c)
    (h_shiftReg .rrc .d)
    (h_shiftReg .rrc .e)
    (h_shiftReg .rrc .h)
    (h_shiftReg .rrc .l)
    (h_shiftMem .rrc)
    (h_shiftReg .rrc .a)
    (h_shiftReg .rl .b)
    (h_shiftReg .rl .c)
    (h_shiftReg .rl .d)
    (h_shiftReg .rl .e)
    (h_shiftReg .rl .h)
    (h_shiftReg .rl .l)
    (h_shiftMem .rl)
    (h_shiftReg .rl .a)
    (h_shiftReg .rr .b)
    (h_shiftReg .rr .c)
    (h_shiftReg .rr .d)
    (h_shiftReg .rr .e)
    (h_shiftReg .rr .h)
    (h_shiftReg .rr .l)
    (h_shiftMem .rr)
    (h_shiftReg .rr .a)
    (h_shiftReg .sla .b)
    (h_shiftReg .sla .c)
    (h_shiftReg .sla .d)
    (h_shiftReg .sla .e)
    (h_shiftReg .sla .h)
    (h_shiftReg .sla .l)
    (h_shiftMem .sla)
    (h_shiftReg .sla .a)
    (h_shiftReg .sra .b)
    (h_shiftReg .sra .c)
    (h_shiftReg .sra .d)
    (h_shiftReg .sra .e)
    (h_shiftReg .sra .h)
    (h_shiftReg .sra .l)
    (h_shiftMem .sra)
    (h_shiftReg .sra .a)
    (h_shiftReg .swap .b)
    (h_shiftReg .swap .c)
    (h_shiftReg .swap .d)
    (h_shiftReg .swap .e)
    (h_shiftReg .swap .h)
    (h_shiftReg .swap .l)
    (h_shiftMem .swap)
    (h_shiftReg .swap .a)
    (h_shiftReg .srl .b)
    (h_shiftReg .srl .c)
    (h_shiftReg .srl .d)
    (h_shiftReg .srl .e)
    (h_shiftReg .srl .h)
    (h_shiftReg .srl .l)
    (h_shiftMem .srl)
    (h_shiftReg .srl .a)
    (h_bitReg .f0 .b)
    (h_bitReg .f0 .c)
    (h_bitReg .f0 .d)
    (h_bitReg .f0 .e)
    (h_bitReg .f0 .h)
    (h_bitReg .f0 .l)
    (h_bitMem .f0)
    (h_bitReg .f0 .a)
    (h_bitReg .f1 .b)
    (h_bitReg .f1 .c)
    (h_bitReg .f1 .d)
    (h_bitReg .f1 .e)
    (h_bitReg .f1 .h)
    (h_bitReg .f1 .l)
    (h_bitMem .f1)
    (h_bitReg .f1 .a)
    (h_bitReg .f2 .b)
    (h_bitReg .f2 .c)
    (h_bitReg .f2 .d)
    (h_bitReg .f2 .e)
    (h_bitReg .f2 .h)
    (h_bitReg .f2 .l)
    (h_bitMem .f2)
    (h_bitReg .f2 .a)
    (h_bitReg .f3 .b)
    (h_bitReg .f3 .c)
    (h_bitReg .f3 .d)
    (h_bitReg .f3 .e)
    (h_bitReg .f3 .h)
    (h_bitReg .f3 .l)
    (h_bitMem .f3)
    (h_bitReg .f3 .a)
    (h_bitReg .f4 .b)
    (h_bitReg .f4 .c)
    (h_bitReg .f4 .d)
    (h_bitReg .f4 .e)
    (h_bitReg .f4 .h)
    (h_bitReg .f4 .l)
    (h_bitMem .f4)
    (h_bitReg .f4 .a)
    (h_bitReg .f5 .b)
    (h_bitReg .f5 .c)
    (h_bitReg .f5 .d)
    (h_bitReg .f5 .e)
    (h_bitReg .f5 .h)
    (h_bitReg .f5 .l)
    (h_bitMem .f5)
    (h_bitReg .f5 .a)
    (h_bitReg .f6 .b)
    (h_bitReg .f6 .c)
    (h_bitReg .f6 .d)
    (h_bitReg .f6 .e)
    (h_bitReg .f6 .h)
    (h_bitReg .f6 .l)
    (h_bitMem .f6)
    (h_bitReg .f6 .a)
    (h_bitReg .f7 .b)
    (h_bitReg .f7 .c)
    (h_bitReg .f7 .d)
    (h_bitReg .f7 .e)
    (h_bitReg .f7 .h)
    (h_bitReg .f7 .l)
    (h_bitMem .f7)
    (h_bitReg .f7 .a)
    (h_resReg .f0 .b)
    (h_resReg .f0 .c)
    (h_resReg .f0 .d)
    (h_resReg .f0 .e)
    (h_resReg .f0 .h)
    (h_resReg .f0 .l)
    (h_resMem .f0)
    (h_resReg .f0 .a)
    (h_resReg .f1 .b)
    (h_resReg .f1 .c)
    (h_resReg .f1 .d)
    (h_resReg .f1 .e)
    (h_resReg .f1 .h)
    (h_resReg .f1 .l)
    (h_resMem .f1)
    (h_resReg .f1 .a)
    (h_resReg .f2 .b)
    (h_resReg .f2 .c)
    (h_resReg .f2 .d)
    (h_resReg .f2 .e)
    (h_resReg .f2 .h)
    (h_resReg .f2 .l)
    (h_resMem .f2)
    (h_resReg .f2 .a)
    (h_resReg .f3 .b)
    (h_resReg .f3 .c)
    (h_resReg .f3 .d)
    (h_resReg .f3 .e)
    (h_resReg .f3 .h)
    (h_resReg .f3 .l)
    (h_resMem .f3)
    (h_resReg .f3 .a)
    (h_resReg .f4 .b)
    (h_resReg .f4 .c)
    (h_resReg .f4 .d)
    (h_resReg .f4 .e)
    (h_resReg .f4 .h)
    (h_resReg .f4 .l)
    (h_resMem .f4)
    (h_resReg .f4 .a)
    (h_resReg .f5 .b)
    (h_resReg .f5 .c)
    (h_resReg .f5 .d)
    (h_resReg .f5 .e)
    (h_resReg .f5 .h)
    (h_resReg .f5 .l)
    (h_resMem .f5)
    (h_resReg .f5 .a)
    (h_resReg .f6 .b)
    (h_resReg .f6 .c)
    (h_resReg .f6 .d)
    (h_resReg .f6 .e)
    (h_resReg .f6 .h)
    (h_resReg .f6 .l)
    (h_resMem .f6)
    (h_resReg .f6 .a)
    (h_resReg .f7 .b)
    (h_resReg .f7 .c)
    (h_resReg .f7 .d)
    (h_resReg .f7 .e)
    (h_resReg .f7 .h)
    (h_resReg .f7 .l)
    (h_resMem .f7)
    (h_resReg .f7 .a)
    (h_setReg .f0 .b)
    (h_setReg .f0 .c)
    (h_setReg .f0 .d)
    (h_setReg .f0 .e)
    (h_setReg .f0 .h)
    (h_setReg .f0 .l)
    (h_setMem .f0)
    (h_setReg .f0 .a)
    (h_setReg .f1 .b)
    (h_setReg .f1 .c)
    (h_setReg .f1 .d)
    (h_setReg .f1 .e)
    (h_setReg .f1 .h)
    (h_setReg .f1 .l)
    (h_setMem .f1)
    (h_setReg .f1 .a)
    (h_setReg .f2 .b)
    (h_setReg .f2 .c)
    (h_setReg .f2 .d)
    (h_setReg .f2 .e)
    (h_setReg .f2 .h)
    (h_setReg .f2 .l)
    (h_setMem .f2)
    (h_setReg .f2 .a)
    (h_setReg .f3 .b)
    (h_setReg .f3 .c)
    (h_setReg .f3 .d)
    (h_setReg .f3 .e)
    (h_setReg .f3 .h)
    (h_setReg .f3 .l)
    (h_setMem .f3)
    (h_setReg .f3 .a)
    (h_setReg .f4 .b)
    (h_setReg .f4 .c)
    (h_setReg .f4 .d)
    (h_setReg .f4 .e)
    (h_setReg .f4 .h)
    (h_setReg .f4 .l)
    (h_setMem .f4)
    (h_setReg .f4 .a)
    (h_setReg .f5 .b)
    (h_setReg .f5 .c)
    (h_setReg .f5 .d)
    (h_setReg .f5 .e)
    (h_setReg .f5 .h)
    (h_setReg .f5 .l)
    (h_setMem .f5)
    (h_setReg .f5 .a)
    (h_setReg .f6 .b)
    (h_setReg .f6 .c)
    (h_setReg .f6 .d)
    (h_setReg .f6 .e)
    (h_setReg .f6 .h)
    (h_setReg .f6 .l)
    (h_setMem .f6)
    (h_setReg .f6 .a)
    (h_setReg .f7 .b)
    (h_setReg .f7 .c)
    (h_setReg .f7 .d)
    (h_setReg .f7 .e)
    (h_setReg .f7 .h)
    (h_setReg .f7 .l)
    (h_setMem .f7)
    (h_setReg .f7 .a)

end Sys2Proof
end

