-- ==== Sys2Proof/Laws/Meaning.lean ====
section
/-! SUPPORT. What `exec` is for each family of instructions, by its shared operation; later proofs cite
these and never take apart the match on 511 constructors. -/

namespace Sys2Proof.Machine

variable (s : State)

theorem exec_ldRegReg (r q : Reg8) : exec (.ldRegReg r q) s =
    .next ((s.startInstr 1 4).setReg8 r (s.reg8 q)) := by
  cases r <;> cases q <;> rfl

theorem exec_ldRegMem (r : Reg8) : exec (.ldRegMem r) s =
    loadReg r s.hl (s.startInstr 1 8) := by
  cases r <;> rfl

theorem exec_ldMemReg (r : Reg8) : exec (.ldMemReg r) s =
    writeByte s.hl (s.reg8 r) (s.startInstr 1 8) := by
  cases r <;> rfl

theorem exec_ldRegImm (r : Reg8) (n : Byte) : exec (.ldRegImm r n) s =
    .next ((s.startInstr 2 8).setReg8 r n) := by
  cases r <;> rfl

theorem exec_aluReg (o : AluOp) (r : Reg8) : exec (.aluReg o r) s =
    .next (aluWith o (s.reg8 r) (s.startInstr 1 4)) := by
  cases o <;> cases r <;> rfl

theorem exec_aluMem (o : AluOp) : exec (.aluMem o) s =
    aluAtHl o (s.startInstr 1 8) := by
  cases o <;> rfl

theorem exec_aluImm (o : AluOp) (n : Byte) : exec (.aluImm o n) s =
    .next (aluWith o n (s.startInstr 2 8)) := by
  cases o <;> rfl

theorem exec_incReg (r : Reg8) : exec (.incReg r) s =
    .next (updateReg r incResult (s.startInstr 1 4)) := by
  cases r <;> rfl

theorem exec_decReg (r : Reg8) : exec (.decReg r) s =
    .next (updateReg r decResult (s.startInstr 1 4)) := by
  cases r <;> rfl

theorem exec_ldPairImm (p : Reg16) (nn : Word) : exec (.ldPairImm p nn) s =
    .next ((s.startInstr 3 12).setReg16 p nn) := by
  cases p <;> rfl

theorem exec_addHlPair (p : Reg16) : exec (.addHlPair p) s =
    .next (((s.startInstr 1 8).setReg16 .hl (s.hl + s.reg16 p)).setFlags
      (addWordFlags s.hl (s.reg16 p) s.cpu.flags)) := by
  cases p <;> rfl

theorem exec_incPair (p : Reg16) : exec (.incPair p) s =
    .next ((s.startInstr 1 8).setReg16 p (s.reg16 p + 1)) := by
  cases p <;> rfl

theorem exec_decPair (p : Reg16) : exec (.decPair p) s =
    .next ((s.startInstr 1 8).setReg16 p (s.reg16 p - 1)) := by
  cases p <;> rfl

theorem exec_pushPair (p : StackPair) : exec (.pushPair p) s =
    pushWord (s.stackPair p) (s.startInstr 1 16) := by
  cases p <;> rfl

theorem exec_popPair (p : StackPair) : exec (.popPair p) s =
    popWord (s.startInstr 1 12) fun v t => .next (t.setStackPair p v) := by
  cases p <;> rfl

theorem exec_jpCond (cc : Cond) (nn : Word) : exec (.jpCond cc nn) s =
    if s.cpu.flags.holds cc then .next ((s.startInstr 3 16).setPc nn) else .next (s.startInstr 3 12) := by
  cases cc <;> rfl

theorem exec_jrCond (cc : Cond) (e : Int) : exec (.jrCond cc e) s =
    if s.cpu.flags.holds cc then .next ((s.startInstr 2 12).jumpBy e) else .next (s.startInstr 2 8) := by
  cases cc <;> rfl

theorem exec_callCond (cc : Cond) (nn : Word) : exec (.callCond cc nn) s =
    if s.cpu.flags.holds cc then callTo nn (s.startInstr 3 24) else .next (s.startInstr 3 12) := by
  cases cc <;> rfl

theorem exec_retCond (cc : Cond) : exec (.retCond cc) s =
    if s.cpu.flags.holds cc then returnTo (s.startInstr 1 20) else .next (s.startInstr 1 8) := by
  cases cc <;> rfl

theorem exec_rstVec (y : Field3) : exec (.rstVec y) s =
    callTo (BitVec.ofNat 16 (8 * y.val)) (s.startInstr 1 16) := by
  cases y <;> rfl

theorem exec_shiftReg (o : ShiftOp) (r : Reg8) : exec (.shiftReg o r) s =
    .next (updateReg r (shiftResult o) (s.startInstr 2 8)) := by
  cases o <;> cases r <;> rfl

theorem exec_shiftMem (o : ShiftOp) : exec (.shiftMem o) s =
    updateAtHl (shiftResult o) (s.startInstr 2 16) := by
  cases o <;> rfl

theorem exec_bitReg (b : Field3) (r : Reg8) : exec (.bitReg b r) s =
    .next ((s.startInstr 2 8).setFlags (bitFlags b (s.reg8 r) s.cpu.flags)) := by
  cases b <;> cases r <;> rfl

theorem exec_bitMem (b : Field3) : exec (.bitMem b) s =
    testBitAtHl b (s.startInstr 2 12) := by
  cases b <;> rfl

theorem exec_resReg (b : Field3) (r : Reg8) : exec (.resReg b r) s =
    .next ((s.startInstr 2 8).setReg8 r (resValue b (s.reg8 r))) := by
  cases b <;> cases r <;> rfl

theorem exec_resMem (b : Field3) : exec (.resMem b) s =
    modifyAtHl (resValue b) (s.startInstr 2 16) := by
  cases b <;> rfl

theorem exec_setReg (b : Field3) (r : Reg8) : exec (.setReg b r) s =
    .next ((s.startInstr 2 8).setReg8 r (setValue b (s.reg8 r))) := by
  cases b <;> cases r <;> rfl

theorem exec_setMem (b : Field3) : exec (.setMem b) s =
    modifyAtHl (setValue b) (s.startInstr 2 16) := by
  cases b <;> rfl

theorem exec_illegal (o : IllegalOp) : exec (.illegal o) s =
    .fault (.invalidOpcode o.code s.cpu.pc) := by
  cases o <;> rfl

theorem exec_nop : exec (.nop) s =
    .next (s.startInstr 1 4) := rfl

theorem exec_ldMbcA : exec (.ldMbcA) s =
    writeByte (s.reg16 .bc) (s.reg8 .a) (s.startInstr 1 8) := rfl

theorem exec_rlca : exec (.rlca) s =
    .next ((s.startInstr 1 4).setAccumulator (rotateAResult .rlc (s.reg8 .a) s.cpu.flags)) := rfl

theorem exec_ldMnnSp (nn : Word) : exec (.ldMnnSp nn) s =
    storeWord nn s.cpu.sp (s.startInstr 3 20) := rfl

theorem exec_ldAMbc : exec (.ldAMbc) s =
    loadReg .a (s.reg16 .bc) (s.startInstr 1 8) := rfl

theorem exec_rrca : exec (.rrca) s =
    .next ((s.startInstr 1 4).setAccumulator (rotateAResult .rrc (s.reg8 .a) s.cpu.flags)) := rfl

theorem exec_stop (n : Byte) : exec (.stop n) s =
    .next (s.startInstr 2 4).enterStop := rfl

theorem exec_ldMdeA : exec (.ldMdeA) s =
    writeByte (s.reg16 .de) (s.reg8 .a) (s.startInstr 1 8) := rfl

theorem exec_rla : exec (.rla) s =
    .next ((s.startInstr 1 4).setAccumulator (rotateAResult .rl (s.reg8 .a) s.cpu.flags)) := rfl

theorem exec_jrE (e : Int) : exec (.jrE e) s =
    .next ((s.startInstr 2 12).jumpBy e) := rfl

theorem exec_ldAMde : exec (.ldAMde) s =
    loadReg .a (s.reg16 .de) (s.startInstr 1 8) := rfl

theorem exec_rra : exec (.rra) s =
    .next ((s.startInstr 1 4).setAccumulator (rotateAResult .rr (s.reg8 .a) s.cpu.flags)) := rfl

theorem exec_ldMhliA : exec (.ldMhliA) s =
    storeAMove 1 (s.startInstr 1 8) := rfl

theorem exec_daa : exec (.daa) s =
    .next ((s.startInstr 1 4).setAccumulator (daaResult (s.reg8 .a) s.cpu.flags)) := rfl

theorem exec_ldAMhli : exec (.ldAMhli) s =
    loadAMove 1 (s.startInstr 1 8) := rfl

theorem exec_cpl : exec (.cpl) s =
    .next ((s.startInstr 1 4).setAccumulator (cplResult (s.reg8 .a) s.cpu.flags)) := rfl

theorem exec_ldMhldA : exec (.ldMhldA) s =
    storeAMove (-1) (s.startInstr 1 8) := rfl

theorem exec_incMhl : exec (.incMhl) s =
    updateAtHl incResult (s.startInstr 1 12) := rfl

theorem exec_decMhl : exec (.decMhl) s =
    updateAtHl decResult (s.startInstr 1 12) := rfl

theorem exec_ldMhlN (n : Byte) : exec (.ldMhlN n) s =
    writeByte s.hl n (s.startInstr 2 12) := rfl

theorem exec_scf : exec (.scf) s =
    .next ((s.startInstr 1 4).setFlags (scfFlags s.cpu.flags)) := rfl

theorem exec_ldAMhld : exec (.ldAMhld) s =
    loadAMove (-1) (s.startInstr 1 8) := rfl

theorem exec_ccf : exec (.ccf) s =
    .next ((s.startInstr 1 4).setFlags (ccfFlags s.cpu.flags)) := rfl

theorem exec_halt : exec (.halt) s =
    .next (s.startInstr 1 4).enterHalt := rfl

theorem exec_jpNn (nn : Word) : exec (.jpNn nn) s =
    .next ((s.startInstr 3 16).setPc nn) := rfl

theorem exec_ret : exec (.ret) s =
    returnTo (s.startInstr 1 16) := rfl

theorem exec_callNn (nn : Word) : exec (.callNn nn) s =
    callTo nn (s.startInstr 3 24) := rfl

theorem exec_reti : exec (.reti) s =
    returnFromInterrupt (s.startInstr 1 16) := rfl

theorem exec_ldhMnA (n : Byte) : exec (.ldhMnA n) s =
    writeByte (highPage n) (s.reg8 .a) (s.startInstr 2 12) := rfl

theorem exec_ldhMcA : exec (.ldhMcA) s =
    writeByte (highPage (s.reg8 .c)) (s.reg8 .a) (s.startInstr 1 8) := rfl

theorem exec_addSpE (e : Int) : exec (.addSpE e) s =
    .next (((s.startInstr 2 16).setSp (s.cpu.sp + dispWord e)).setFlags (spDispFlags s.cpu.sp e)) := rfl

theorem exec_jpHl : exec (.jpHl) s =
    .next ((s.startInstr 1 4).setPc s.hl) := rfl

theorem exec_ldMnnA (nn : Word) : exec (.ldMnnA nn) s =
    writeByte nn (s.reg8 .a) (s.startInstr 3 16) := rfl

theorem exec_ldhAMn (n : Byte) : exec (.ldhAMn n) s =
    loadReg .a (highPage n) (s.startInstr 2 12) := rfl

theorem exec_ldhAMc : exec (.ldhAMc) s =
    loadReg .a (highPage (s.reg8 .c)) (s.startInstr 1 8) := rfl

theorem exec_di : exec (.di) s =
    .next (s.startInstr 1 4).disableInterrupts := rfl

theorem exec_ldHlSpE (e : Int) : exec (.ldHlSpE e) s =
    .next (((s.startInstr 2 12).setReg16 .hl (s.cpu.sp + dispWord e)).setFlags (spDispFlags s.cpu.sp e)) := rfl

theorem exec_ldSpHl : exec (.ldSpHl) s =
    .next ((s.startInstr 1 8).setSp s.hl) := rfl

theorem exec_ldAMnn (nn : Word) : exec (.ldAMnn nn) s =
    loadReg .a nn (s.startInstr 3 16) := rfl

theorem exec_ei : exec (.ei) s =
    .next (s.startInstr 1 4).enableInterrupts := rfl

end Sys2Proof.Machine
end

