-- ==== Sys2Proof/Laws/Exec.lean ====
section
/-! SUPPORT. What an instruction can do, said once: every meaning is one of a few shapes over the shared
operations, with its length, its cost and what it keeps; the facts every instruction shares are then
proved of the shapes. -/

namespace Sys2Proof.Machine

/-- A cost of rule R740: a multiple of 4 from 4 to 24. -/
abbrev CostOk (c : Nat) : Prop := c % 4 = 0 ∧ 4 ≤ c ∧ c ≤ 24

/-- The hidden control state an instruction keeps; the HALT bug is used up. -/
def KeepsControl (s c : Cpu) : Prop :=
  c.ime = s.ime ∧ c.imeDelay = s.imeDelay ∧ c.halted = s.halted ∧ c.stopped = s.stopped ∧
    c.haltBug = false

/-- The shapes a meaning has. -/
inductive Shape (s : State) : Result → Prop
  | pure (len cost : Nat) (c : Cpu) (hc : CostOk cost)
      (h : KeepsControl s.cpu c) : Shape s (.next ((s.startInstr len cost).withCpu c))
  | halt : Shape s (.next (s.startInstr 1 4).enterHalt)
  | stop : Shape s (.next (s.startInstr 2 4).enterStop)
  | di : Shape s (.next (s.startInstr 1 4).disableInterrupts)
  | ei : Shape s (.next (s.startInstr 1 4).enableInterrupts)
  | illegal (op : Byte) : Shape s (.fault (.invalidOpcode op s.cpu.pc))
  | load (r : Reg8) (a : Word) (len cost : Nat)
      (hc : CostOk cost) :
      Shape s (loadReg r a (s.startInstr len cost))
  | loadMove (d : Word) (len cost : Nat)
      (hc : CostOk cost) :
      Shape s (loadAMove d (s.startInstr len cost))
  | storeMove (d : Word) (len cost : Nat)
      (hc : CostOk cost) :
      Shape s (storeAMove d (s.startInstr len cost))
  | write (a : Word) (v : Byte) (len cost : Nat)
      (hc : CostOk cost) :
      Shape s (writeByte a v (s.startInstr len cost))
  | storeWord (a v : Word) (len cost : Nat)
      (hc : CostOk cost) :
      Shape s (storeWord a v (s.startInstr len cost))
  | push (v : Word) (len cost : Nat) (hc : CostOk cost) :
      Shape s (pushWord v (s.startInstr len cost))
  | pop (p : StackPair) (len cost : Nat)
      (hc : CostOk cost) :
      Shape s (popWord (s.startInstr len cost) fun v t => .next (t.setStackPair p v))
  | ret (len cost : Nat) (hc : CostOk cost) :
      Shape s (returnTo (s.startInstr len cost))
  | reti (len cost : Nat) (hc : CostOk cost) :
      Shape s (returnFromInterrupt (s.startInstr len cost))
  | call (target : Word) (len cost : Nat)
      (hc : CostOk cost) :
      Shape s (callTo target (s.startInstr len cost))
  | aluAtHl (o : AluOp) (len cost : Nat)
      (hc : CostOk cost) :
      Shape s (aluAtHl o (s.startInstr len cost))
  | updateAtHl (f : Byte → Flags → Flagged) (len cost : Nat)
      (hc : CostOk cost) :
      Shape s (updateAtHl f (s.startInstr len cost))
  | testBit (b : Field3) (len cost : Nat)
      (hc : CostOk cost) :
      Shape s (testBitAtHl b (s.startInstr len cost))
  | modify (f : Byte → Byte) (len cost : Nat)
      (hc : CostOk cost) :
      Shape s (modifyAtHl f (s.startInstr len cost))

theorem Shape.ite {s : State} {x y : Result} {b : Prop} [Decidable b] (hx : Shape s x)
    (hy : Shape s y) : Shape s (if b then x else y) := by
  split
  · exact hx
  · exact hy

/-- Every meaning has one of the shapes. -/
theorem exec_shape (i : Instr) (s : State) : Shape s (exec i s) := by
  apply Instr.byFamily (P := fun i => Shape s (exec i s)) (i := i)
  · intro r q; rw [exec_ldRegReg]; exact .pure _ _ _ (by decide) ⟨by simp, by simp, by simp, by simp, by simp⟩
  · intro r; rw [exec_ldRegMem]; exact .load _ _ _ _ (by decide)
  · intro r; rw [exec_ldMemReg]; exact .write _ _ _ _ (by decide)
  · intro r n; rw [exec_ldRegImm]; exact .pure _ _ _ (by decide) ⟨by simp, by simp, by simp, by simp, by simp⟩
  · intro o r; rw [exec_aluReg]; exact .pure _ _ _ (by decide) ⟨by simp, by simp, by simp, by simp, by simp⟩
  · intro o; rw [exec_aluMem]; exact .aluAtHl _ _ _ (by decide)
  · intro o n; rw [exec_aluImm]; exact .pure _ _ _ (by decide) ⟨by simp, by simp, by simp, by simp, by simp⟩
  · intro r; rw [exec_incReg]; exact .pure _ _ _ (by decide) ⟨by simp, by simp, by simp, by simp, by simp⟩
  · intro r; rw [exec_decReg]; exact .pure _ _ _ (by decide) ⟨by simp, by simp, by simp, by simp, by simp⟩
  · intro p nn; rw [exec_ldPairImm]; exact .pure _ _ _ (by decide) ⟨by simp, by simp, by simp, by simp, by simp⟩
  · intro p; rw [exec_addHlPair]; exact .pure _ _ _ (by decide) ⟨by simp, by simp, by simp, by simp, by simp⟩
  · intro p; rw [exec_incPair]; exact .pure _ _ _ (by decide) ⟨by simp, by simp, by simp, by simp, by simp⟩
  · intro p; rw [exec_decPair]; exact .pure _ _ _ (by decide) ⟨by simp, by simp, by simp, by simp, by simp⟩
  · intro p; rw [exec_pushPair]; exact .push _ _ _ (by decide)
  · intro p; rw [exec_popPair]; exact .pop _ _ _ (by decide)
  · intro cc nn; rw [exec_jpCond]; exact Shape.ite (.pure _ _ _ (by decide) ⟨by simp, by simp, by simp, by simp, by simp⟩) (.pure _ _ _ (by decide) ⟨by simp, by simp, by simp, by simp, by simp⟩)
  · intro cc e; rw [exec_jrCond]; exact Shape.ite (.pure _ _ _ (by decide) ⟨by simp, by simp, by simp, by simp, by simp⟩) (.pure _ _ _ (by decide) ⟨by simp, by simp, by simp, by simp, by simp⟩)
  · intro cc nn; rw [exec_callCond]; exact Shape.ite (.call _ _ _ (by decide)) (.pure _ _ _ (by decide) ⟨by simp, by simp, by simp, by simp, by simp⟩)
  · intro cc; rw [exec_retCond]; exact Shape.ite (.ret _ _ (by decide)) (.pure _ _ _ (by decide) ⟨by simp, by simp, by simp, by simp, by simp⟩)
  · intro y; rw [exec_rstVec]; exact .call _ _ _ (by decide)
  · intro o r; rw [exec_shiftReg]; exact .pure _ _ _ (by decide) ⟨by simp, by simp, by simp, by simp, by simp⟩
  · intro o; rw [exec_shiftMem]; exact .updateAtHl _ _ _ (by decide)
  · intro b r; rw [exec_bitReg]; exact .pure _ _ _ (by decide) ⟨by simp, by simp, by simp, by simp, by simp⟩
  · intro b; rw [exec_bitMem]; exact .testBit _ _ _ (by decide)
  · intro b r; rw [exec_resReg]; exact .pure _ _ _ (by decide) ⟨by simp, by simp, by simp, by simp, by simp⟩
  · intro b; rw [exec_resMem]; exact .modify _ _ _ (by decide)
  · intro b r; rw [exec_setReg]; exact .pure _ _ _ (by decide) ⟨by simp, by simp, by simp, by simp, by simp⟩
  · intro b; rw [exec_setMem]; exact .modify _ _ _ (by decide)
  · intro o; rw [exec_illegal]; exact .illegal _
  · rw [exec_nop]; exact .pure _ _ _ (by decide) ⟨by simp, by simp, by simp, by simp, by simp⟩
  · rw [exec_ldMbcA]; exact .write _ _ _ _ (by decide)
  · rw [exec_rlca]; exact .pure _ _ _ (by decide) ⟨by simp, by simp, by simp, by simp, by simp⟩
  · intro nn; rw [exec_ldMnnSp]; exact .storeWord _ _ _ _ (by decide)
  · rw [exec_ldAMbc]; exact .load _ _ _ _ (by decide)
  · rw [exec_rrca]; exact .pure _ _ _ (by decide) ⟨by simp, by simp, by simp, by simp, by simp⟩
  · intro n; rw [exec_stop]; exact .stop
  · rw [exec_ldMdeA]; exact .write _ _ _ _ (by decide)
  · rw [exec_rla]; exact .pure _ _ _ (by decide) ⟨by simp, by simp, by simp, by simp, by simp⟩
  · intro e; rw [exec_jrE]; exact .pure _ _ _ (by decide) ⟨by simp, by simp, by simp, by simp, by simp⟩
  · rw [exec_ldAMde]; exact .load _ _ _ _ (by decide)
  · rw [exec_rra]; exact .pure _ _ _ (by decide) ⟨by simp, by simp, by simp, by simp, by simp⟩
  · rw [exec_ldMhliA]; exact .storeMove _ _ _ (by decide)
  · rw [exec_daa]; exact .pure _ _ _ (by decide) ⟨by simp, by simp, by simp, by simp, by simp⟩
  · rw [exec_ldAMhli]; exact .loadMove _ _ _ (by decide)
  · rw [exec_cpl]; exact .pure _ _ _ (by decide) ⟨by simp, by simp, by simp, by simp, by simp⟩
  · rw [exec_ldMhldA]; exact .storeMove _ _ _ (by decide)
  · rw [exec_incMhl]; exact .updateAtHl _ _ _ (by decide)
  · rw [exec_decMhl]; exact .updateAtHl _ _ _ (by decide)
  · intro n; rw [exec_ldMhlN]; exact .write _ _ _ _ (by decide)
  · rw [exec_scf]; exact .pure _ _ _ (by decide) ⟨by simp, by simp, by simp, by simp, by simp⟩
  · rw [exec_ldAMhld]; exact .loadMove _ _ _ (by decide)
  · rw [exec_ccf]; exact .pure _ _ _ (by decide) ⟨by simp, by simp, by simp, by simp, by simp⟩
  · rw [exec_halt]; exact .halt
  · intro nn; rw [exec_jpNn]; exact .pure _ _ _ (by decide) ⟨by simp, by simp, by simp, by simp, by simp⟩
  · rw [exec_ret]; exact .ret _ _ (by decide)
  · intro nn; rw [exec_callNn]; exact .call _ _ _ (by decide)
  · rw [exec_reti]; exact .reti _ _ (by decide)
  · intro n; rw [exec_ldhMnA]; exact .write _ _ _ _ (by decide)
  · rw [exec_ldhMcA]; exact .write _ _ _ _ (by decide)
  · intro e; rw [exec_addSpE]; exact .pure _ _ _ (by decide) ⟨by simp, by simp, by simp, by simp, by simp⟩
  · rw [exec_jpHl]; exact .pure _ _ _ (by decide) ⟨by simp, by simp, by simp, by simp, by simp⟩
  · intro nn; rw [exec_ldMnnA]; exact .write _ _ _ _ (by decide)
  · intro n; rw [exec_ldhAMn]; exact .load _ _ _ _ (by decide)
  · rw [exec_ldhAMc]; exact .load _ _ _ _ (by decide)
  · rw [exec_di]; exact .di
  · intro e; rw [exec_ldHlSpE]; exact .pure _ _ _ (by decide) ⟨by simp, by simp, by simp, by simp, by simp⟩
  · rw [exec_ldSpHl]; exact .pure _ _ _ (by decide) ⟨by simp, by simp, by simp, by simp, by simp⟩
  · intro nn; rw [exec_ldAMnn]; exact .load _ _ _ _ (by decide)
  · rw [exec_ei]; exact .ei

end Sys2Proof.Machine
end

