-- ==== Sys2Proof/Laws/Reach.lean ====
section
/-! SUPPORT. What the CPU phase of a step can change, said once: it reaches its next state by CPU
register updates, cost and draw counting, CPU writes that are not refused, a divider reset and an
interrupt acknowledgement; and an instruction's cost and control state. -/

namespace Sys2Proof.Machine

/-- The primitive moves of a CPU phase. -/
inductive Reach (s : State) : State → Prop
  | refl : Reach s s
  | cpu {t : State} (h : Reach s t) (c : Cpu) : Reach s (t.withCpu c)
  | cost {t : State} (h : Reach s t) (k : Nat) : Reach s { t with stepCost := k }
  | draw {t : State} (h : Reach s t) (n : Nat) : Reach s { t with draws := n }
  | store {t : State} (h : Reach s t) (a : Word) (v : Byte) (hr : t.writeRefusal a v = none) :
      Reach s (t.storeByte a v)
  | divReset {t : State} (h : Reach s t) : Reach s (t.withTimer (t.timer.divReset t.enable.timer))
  | ack {t : State} (h : Reach s t) (i : Nat) : Reach s (t.withInts (t.ints.acknowledge i))

theorem Reach.trans {s t u : State} (h : Reach s t) (k : Reach t u) : Reach s u := by
  induction k with
  | refl => exact h
  | cpu _ c ih => exact ih.cpu c
  | cost _ k ih => exact ih.cost k
  | draw _ n ih => exact ih.draw n
  | store _ a v hr ih => exact ih.store a v hr
  | divReset _ ih => exact ih.divReset
  | ack _ i ih => exact ih.ack i

theorem Reach.readsAs {s s' : State} {a : Word} {v : Byte} (h : ReadsAs s a v s') : Reach s s' := by
  rcases h with ⟨-, rfl⟩ | ⟨-, -, rfl⟩
  · exact .refl
  · exact .draw .refl _

theorem Reach.start (s : State) (len cost : Nat) : Reach s (s.startInstr len cost) :=
  .cost (.cpu .refl _) _

/-- What every instruction that completes leaves. -/
structure Ran (s t : State) : Prop where
  reach : Reach s t
  cost : ∃ c, CostOk c ∧ t.stepCost = s.stepCost + c
  excl : (t.cpu.halted = s.cpu.halted ∧ t.cpu.stopped = s.cpu.stopped ∧ t.cpu.haltBug = false) ∨
    (t.cpu.halted = true ∧ t.cpu.stopped = s.cpu.stopped ∧ t.cpu.haltBug = false) ∨
    (t.cpu.halted = s.cpu.halted ∧ t.cpu.stopped = s.cpu.stopped ∧ t.cpu.haltBug = true) ∨
    (t.cpu.halted = s.cpu.halted ∧ t.cpu.stopped = true ∧ t.cpu.haltBug = false)

/-- What an operation of an instruction that is none of HALT and STOP keeps. -/
structure Kept (s t : State) : Prop where
  reach : Reach s t
  cost : t.stepCost = s.stepCost
  halted : t.cpu.halted = s.cpu.halted
  stopped : t.cpu.stopped = s.cpu.stopped
  haltBug : t.cpu.haltBug = s.cpu.haltBug

theorem Kept.refl (s : State) : Kept s s := ⟨.refl, rfl, rfl, rfl, rfl⟩

theorem Kept.trans {s t u : State} (h : Kept s t) (k : Kept t u) : Kept s u :=
  ⟨h.reach.trans k.reach, k.cost.trans h.cost, k.halted.trans h.halted, k.stopped.trans h.stopped,
    k.haltBug.trans h.haltBug⟩

theorem Kept.withCpu {s : State} {c : Cpu} (h1 : c.halted = s.cpu.halted)
    (h2 : c.stopped = s.cpu.stopped) (h3 : c.haltBug = s.cpu.haltBug) : Kept s (s.withCpu c) :=
  ⟨.cpu .refl c, rfl, h1, h2, h3⟩

theorem Kept.readsAs {s s' : State} {a : Word} {v : Byte} (h : ReadsAs s a v s') : Kept s s' := by
  refine ⟨.readsAs h, ?_, ?_, ?_, ?_⟩ <;> (rw [h.state])

theorem Kept.store {s : State} {a : Word} {v : Byte} (h : s.writeRefusal a v = none) :
    Kept s (s.storeByte a v) := ⟨.store .refl a v h, by simp, by simp, by simp, by simp⟩

theorem Kept.setReg8 (s : State) (r : Reg8) (v : Byte) : Kept s (s.setReg8 r v) :=
  .withCpu (by simp) (by simp) (by simp)

theorem Kept.setReg16 (s : State) (p : Reg16) (v : Word) : Kept s (s.setReg16 p v) :=
  .withCpu (by simp) (by simp) (by simp)

theorem Kept.setStackPair (s : State) (p : StackPair) (v : Word) : Kept s (s.setStackPair p v) :=
  .withCpu (by simp) (by simp) (by simp)

theorem Kept.setFlags (s : State) (f : Flags) : Kept s (s.setFlags f) := .withCpu rfl rfl rfl

theorem Kept.setSp (s : State) (v : Word) : Kept s (s.setSp v) := .withCpu rfl rfl rfl

theorem Kept.setPc (s : State) (v : Word) : Kept s (s.setPc v) := .withCpu rfl rfl rfl

theorem Kept.writeByte {s t : State} {a : Word} {v : Byte} (h : writeByte a v s = .next t) :
    Kept s t := by
  obtain ⟨h1, rfl⟩ := writeByte_next.1 h
  exact .store h1

theorem Kept.withRead {s t : State} {a : Word} {k : Byte → State → Result}
    (h : withRead a s k = .next t) (hk : ∀ v u, k v u = .next t → Kept u t) : Kept s t := by
  obtain ⟨v, u, hu, ht⟩ := withRead_next k h
  exact (Kept.readsAs hu).trans (hk v u ht)

theorem Kept.chain {s t : State} {r : Result} {k : State → Result} (h : chain r k = .next t)
    (hr : ∀ u, r = .next u → Kept s u) (hk : ∀ u, k u = .next t → Kept u t) : Kept s t := by
  obtain ⟨u, h1, h2⟩ := chain_next.1 h
  exact (hr u h1).trans (hk u h2)

theorem Kept.of_next {s t u : State} (h : (.next u : Result) = .next t) (k : Kept s u) : Kept s t := by
  cases h; exact k

theorem Kept.pushWord {s t : State} {v : Word} (h : pushWord v s = .next t) : Kept s t :=
  .chain h (fun _ h1 => (Kept.setSp s _).trans (.writeByte h1))
    (fun u h2 => (Kept.setSp u _).trans (.writeByte h2))

theorem Kept.popWord {s t : State} {k : Word → State → Result} (h : popWord s k = .next t)
    (hk : ∀ v u, k v u = .next t → Kept u t) : Kept s t :=
  .withRead h fun _ u h1 => (Kept.setSp u _).trans <|
    .withRead h1 fun _ w h2 => (Kept.setSp w _).trans (hk _ _ h2)

/-- An instruction that starts with `startInstr` and keeps the rest. -/
theorem Ran.of_kept {s t : State} {len cost : Nat} (hc : CostOk cost)
    (k : Kept (s.startInstr len cost) t) : Ran s t :=
  ⟨(Reach.start s len cost).trans k.reach, ⟨cost, hc, k.cost⟩,
    .inl ⟨k.halted, k.stopped, k.haltBug⟩⟩

/-- What every shape of a meaning leaves when it completes. -/
theorem Shape.ran {s t : State} {r : Result} (h : Shape s r) (ht : r = .next t) : Ran s t := by
  cases h with
  | pure len cost c hc h =>
    cases ht
    exact ⟨.cpu (.start s len cost) c, ⟨cost, hc, rfl⟩, .inl ⟨h.2.2.1, h.2.2.2.1, h.2.2.2.2⟩⟩
  | halt =>
    cases ht
    unfold State.enterHalt
    split
    · exact ⟨.cpu (.start s 1 4) _, ⟨4, by decide, rfl⟩, .inr (.inl ⟨rfl, rfl, rfl⟩)⟩
    · exact ⟨.cpu (.start s 1 4) _, ⟨4, by decide, rfl⟩, .inr (.inr (.inl ⟨rfl, rfl, rfl⟩))⟩
  | stop =>
    cases ht
    exact ⟨.cpu (.divReset (.start s 2 4)) _, ⟨4, by decide, rfl⟩, .inr (.inr (.inr ⟨rfl, rfl, rfl⟩))⟩
  | di =>
    cases ht
    exact ⟨.cpu (.start s 1 4) _, ⟨4, by decide, rfl⟩, .inl ⟨rfl, rfl, rfl⟩⟩
  | ei =>
    cases ht
    exact ⟨.cpu (.start s 1 4) _, ⟨4, by decide, rfl⟩, .inl ⟨rfl, rfl, rfl⟩⟩
  | illegal op => cases ht
  | load r a len cost hc =>
    exact .of_kept hc (.withRead ht fun v u h1 => .of_next h1 (.setReg8 u r v))
  | loadMove d len cost hc =>
    exact .of_kept hc (.withRead ht fun v u h1 =>
      .of_next h1 ((Kept.setReg8 u .a v).trans (.setReg16 _ .hl _)))
  | storeMove d len cost hc =>
    exact .of_kept hc (.chain ht (fun _ h1 => .writeByte h1)
      fun u h2 => .of_next h2 (.setReg16 u .hl _))
  | write a v len cost hc => exact .of_kept hc (.writeByte ht)
  | storeWord a v len cost hc =>
    exact .of_kept hc (.chain ht (fun _ h1 => .writeByte h1) fun _ h2 => .writeByte h2)
  | push v len cost hc => exact .of_kept hc (.pushWord ht)
  | pop p len cost hc =>
    exact .of_kept hc (.popWord ht fun v u h1 => .of_next h1 (.setStackPair u p v))
  | ret len cost hc => exact .of_kept hc (.popWord ht fun v u h1 => .of_next h1 (.setPc u v))
  | reti len cost hc =>
    exact .of_kept hc (.popWord ht fun v u h1 => .of_next h1 (.withCpu rfl rfl rfl))
  | call target len cost hc =>
    exact .of_kept hc (.chain ht (fun _ h1 => .pushWord h1) fun u h2 => .of_next h2 (.setPc u _))
  | aluAtHl o len cost hc =>
    exact .of_kept hc (.withRead ht fun v u h1 =>
      .of_next h1 ((Kept.setReg8 u .a _).trans (.setFlags _ _)))
  | updateAtHl f len cost hc =>
    exact .of_kept hc (.withRead ht fun v u h1 =>
      .chain h1 (fun _ h2 => .writeByte h2) fun w h3 => .of_next h3 (.setFlags w _))
  | testBit b len cost hc =>
    exact .of_kept hc (.withRead ht fun v u h1 => .of_next h1 (.setFlags u _))
  | modify f len cost hc => exact .of_kept hc (.withRead ht fun v u h1 => .writeByte h1)

/-- What every instruction that completes leaves. -/
theorem exec_ran {i : Instr} {s t : State} (h : exec i s = .next t) : Ran s t :=
  (exec_shape i s).ran h

end Sys2Proof.Machine
end

