-- ==== Sys2Proof/Laws/Sound.lean ====
section
/-! SUPPORT. The APU keeps its legal ranges under its tick and under every register write (R90, R611,
R602, R670), and its units are what Safety.lean says of them in numbers. -/

namespace Sys2Proof.Machine

theorem Pulse.legal_iff (c : Pulse) :
    c.legal = true ↔ c.length ≤ 64 ∧ c.dutyPos < 8 ∧ c.volume ≤ 15 ∧ c.envTimer ≤ 7 ∧
      (c.on = true → c.dac = true) := by
  cases h : c.on <;> simp [Pulse.legal, h, and_assoc]

theorem Wave.legal_iff (c : Wave) :
    c.legal = true ↔ c.length ≤ 256 ∧ c.pos < 32 ∧ (c.on = true → c.dacOn = true) := by
  cases h : c.on <;> simp [Wave.legal, h, and_assoc]

theorem Noise.legal_iff (c : Noise) :
    c.legal = true ↔ c.length ≤ 64 ∧ c.volume ≤ 15 ∧ c.envTimer ≤ 7 ∧
      (c.on = true → c.dac = true) := by
  cases h : c.on <;> simp [Noise.legal, h, and_assoc]

theorem Apu.legal_iff (a : Apu) :
    a.legal = true ↔ a.ch1.legal = true ∧ a.ch2.legal = true ∧ a.ch3.legal = true ∧
      a.ch4.legal = true ∧ a.sweep.timer ≤ 8 ∧ a.fsCounter < 8192 ∧ a.fsStep < 8 ∧
      a.sampleRate ≤ Config.clockFrequency ∧ a.sampleAcc < Config.clockFrequency ∧
      (a.power = false → a.ch1.on = false ∧ a.ch2.on = false ∧ a.ch3.on = false ∧ a.ch4.on = false) := by
  cases h : a.power <;> simp [Apu.legal, h, and_assoc]

/-! ## Length, envelope and sweep clocks -/

theorem lengthClock_fst_le (lenEn on : Bool) (length : Nat) : (lengthClock lenEn on length).1 ≤ length := by
  unfold lengthClock
  split
  · simp only; omega
  · exact Nat.le_refl _

theorem lengthClock_snd (lenEn on : Bool) (length : Nat) (h : (lengthClock lenEn on length).2 = true) :
    on = true := by
  unfold lengthClock at h
  split at h
  · simp only [Bool.and_eq_true] at h; exact h.1
  · exact h

theorem extraClock_fst_le (oldEn fsOdd on : Bool) (length : Nat) (v : Byte) :
    (extraClock oldEn fsOdd on length v).1 ≤ length := by
  unfold extraClock
  split
  · simp only; omega
  · exact Nat.le_refl _

theorem extraClock_snd (oldEn fsOdd on : Bool) (length : Nat) (v : Byte)
    (h : (extraClock oldEn fsOdd on length v).2 = true) : on = true := by
  unfold extraClock at h
  split at h
  · simp only [Bool.and_eq_true] at h; exact h.1
  · exact h

theorem triggerLength_le (full length : Nat) (fsOdd : Bool) (v : Byte) (h : length ≤ full) :
    triggerLength full fsOdd length v ≤ full := by
  unfold triggerLength
  split
  · split <;> omega
  · exact h

theorem envelopeVolume_le (v : Byte) : envelopeVolume v ≤ 15 := by
  have := (v.extractLsb' 4 4).isLt
  simp only [envelopeVolume]; omega

theorem envelopePace_le (v : Byte) : envelopePace v ≤ 7 := by
  have := (v.extractLsb' 0 3).isLt
  simp only [envelopePace]; omega

theorem envelopeClock_fst_le (v : Byte) (vol t : Nat) (h : vol ≤ 15) : (envelopeClock v vol t).1 ≤ 15 := by
  unfold envelopeClock
  dsimp only
  split
  · exact h
  · split
    · simp only; split
      · split <;> omega
      · omega
    · exact h

theorem envelopeClock_snd_le (v : Byte) (vol t : Nat) (h : t ≤ 7) : (envelopeClock v vol t).2 ≤ 7 := by
  unfold envelopeClock
  dsimp only
  split
  · exact h
  · split
    · exact envelopePace_le v
    · simp only; omega

theorem Sweep.reload_le (s : Sweep) : s.reload ≤ 8 := by
  have := (s.nr10.extractLsb' 4 3).isLt
  unfold Sweep.reload Sweep.pace
  split <;> omega

theorem Pulse.legal_checkSweep (c : Pulse) (n : Nat) (h : c.legal = true) : (c.checkSweep n).legal = true := by
  obtain ⟨h1, h2, h3, h4, h5⟩ := (Pulse.legal_iff c).1 h
  refine (Pulse.legal_iff _).2 ⟨h1, h2, h3, h4, fun ho => h5 ?_⟩
  simp only [Pulse.checkSweep, Bool.and_eq_true] at ho
  exact ho.1

theorem Pulse.checkSweep_on (c : Pulse) (n : Nat) (h : (c.checkSweep n).on = true) : c.on = true := by
  simp only [Pulse.checkSweep, Bool.and_eq_true] at h
  exact h.1

theorem Pulse.legal_period (c : Pulse) (p : BitVec 11) (h : c.legal = true) :
    ({ c with period := p } : Pulse).legal = true := h

theorem Sweep.note_timer (s : Sweep) : s.note.timer = s.timer := rfl

theorem sweepInit_legal (s : Sweep) (c : Pulse) (h : c.legal = true) :
    (sweepInit s c).1.timer ≤ 8 ∧ (sweepInit s c).2.legal = true := by
  unfold sweepInit
  split
  · exact ⟨s.reload_le, h⟩
  · exact ⟨s.reload_le, c.legal_checkSweep _ h⟩

theorem sweepIterate_legal (s : Sweep) (c : Pulse) (hs : s.timer ≤ 8) (h : c.legal = true) :
    (sweepIterate s c).1.timer ≤ 8 ∧ (sweepIterate s c).2.legal = true := by
  unfold sweepIterate
  dsimp only
  split
  · exact ⟨hs, Pulse.legal_checkSweep _ _ (Pulse.legal_period _ _ (c.legal_checkSweep _ h))⟩
  · exact ⟨hs, c.legal_checkSweep _ h⟩

theorem sweepIterate_on (s : Sweep) (c : Pulse) (h : (sweepIterate s c).2.on = true) : c.on = true := by
  unfold sweepIterate at h
  dsimp only at h
  split at h
  · exact c.checkSweep_on _ (Pulse.checkSweep_on _ _ h)
  · exact c.checkSweep_on _ h

theorem sweepClock_legal (s : Sweep) (c : Pulse) (hs : s.timer ≤ 8) (h : c.legal = true) :
    (sweepClock s c).1.timer ≤ 8 ∧ (sweepClock s c).2.legal = true := by
  unfold sweepClock
  split
  · dsimp only
    split
    · exact sweepIterate_legal _ c s.reload_le h
    · exact ⟨s.reload_le, h⟩
  · exact ⟨by simp only; omega, h⟩

theorem Pulse.legal_clockLength (c : Pulse) (h : c.legal = true) : c.clockLength.legal = true := by
  obtain ⟨h1, h2, h3, h4, h5⟩ := (Pulse.legal_iff c).1 h
  exact (Pulse.legal_iff _).2 ⟨Nat.le_trans (lengthClock_fst_le _ _ _) h1, h2, h3, h4,
    fun ho => h5 (lengthClock_snd _ _ _ ho)⟩

theorem Wave.legal_clockLength (c : Wave) (h : c.legal = true) : c.clockLength.legal = true := by
  obtain ⟨h1, h2, h3⟩ := (Wave.legal_iff c).1 h
  exact (Wave.legal_iff _).2 ⟨Nat.le_trans (lengthClock_fst_le _ _ _) h1, h2,
    fun ho => h3 (lengthClock_snd _ _ _ ho)⟩

theorem Noise.legal_clockLength (c : Noise) (h : c.legal = true) : c.clockLength.legal = true := by
  obtain ⟨h1, h2, h3, h4⟩ := (Noise.legal_iff c).1 h
  exact (Noise.legal_iff _).2 ⟨Nat.le_trans (lengthClock_fst_le _ _ _) h1, h2, h3,
    fun ho => h4 (lengthClock_snd _ _ _ ho)⟩

theorem Pulse.legal_clockEnvelope (c : Pulse) (h : c.legal = true) : c.clockEnvelope.legal = true := by
  obtain ⟨h1, h2, h3, h4, h5⟩ := (Pulse.legal_iff c).1 h
  exact (Pulse.legal_iff _).2 ⟨h1, h2, envelopeClock_fst_le _ _ _ h3, envelopeClock_snd_le _ _ _ h4, h5⟩

theorem Noise.legal_clockEnvelope (c : Noise) (h : c.legal = true) : c.clockEnvelope.legal = true := by
  obtain ⟨h1, h2, h3, h4⟩ := (Noise.legal_iff c).1 h
  exact (Noise.legal_iff _).2 ⟨h1, envelopeClock_fst_le _ _ _ h2, envelopeClock_snd_le _ _ _ h3, h4⟩

theorem Pulse.legal_timerTick (c : Pulse) (h : c.legal = true) : c.timerTick.legal = true := by
  obtain ⟨h1, h2, h3, h4, h5⟩ := (Pulse.legal_iff c).1 h
  unfold Pulse.timerTick
  split
  · exact (Pulse.legal_iff _).2 ⟨h1, Nat.mod_lt _ (by decide), h3, h4, h5⟩
  · exact h

theorem Wave.legal_timerTick (ram : Store) (c : Wave) (h : c.legal = true) :
    (c.timerTick ram).legal = true := by
  obtain ⟨h1, h2, h3⟩ := (Wave.legal_iff c).1 h
  unfold Wave.timerTick
  split
  · exact (Wave.legal_iff _).2 ⟨h1, Nat.mod_lt _ (by decide), h3⟩
  · exact h

theorem Noise.legal_timerTick (c : Noise) (h : c.legal = true) : c.timerTick.legal = true := by
  unfold Noise.timerTick
  split <;> exact h

/-! ## The tick -/

/-- The part of `Apu.legal` that a running APU needs. -/
structure Apu.Ranges (a : Apu) : Prop where
  ch1 : a.ch1.legal = true
  ch2 : a.ch2.legal = true
  ch3 : a.ch3.legal = true
  ch4 : a.ch4.legal = true
  sweep : a.sweep.timer ≤ 8
  counter : a.fsCounter < 8192
  step : a.fsStep < 8
  rate : a.sampleRate ≤ Config.clockFrequency
  acc : a.sampleAcc < Config.clockFrequency

theorem Apu.Ranges.of_legal {a : Apu} (h : a.legal = true) : a.Ranges := by
  obtain ⟨h1, h2, h3, h4, h5, h6, h7, h8, h9, -⟩ := (Apu.legal_iff a).1 h
  exact ⟨h1, h2, h3, h4, h5, h6, h7, h8, h9⟩

theorem Apu.Ranges.legal {a : Apu} (h : a.Ranges) (hp : a.power = false →
    a.ch1.on = false ∧ a.ch2.on = false ∧ a.ch3.on = false ∧ a.ch4.on = false) : a.legal = true :=
  (Apu.legal_iff a).2 ⟨h.ch1, h.ch2, h.ch3, h.ch4, h.sweep, h.counter, h.step, h.rate, h.acc, hp⟩

theorem Apu.Ranges.on {a : Apu} (h : a.Ranges) (hp : a.power = true) : a.legal = true :=
  h.legal fun h1 => absurd h1 (by simp [hp])

theorem Apu.ranges_fsClock (a : Apu) (h : a.Ranges) : a.fsClock.Ranges ∧ a.fsClock.power = a.power := by
  unfold Apu.fsClock
  have e1 : ∃ b : Apu, b.Ranges ∧ b.power = a.power ∧ b = (if a.fsStep % 2 = 0 then
      { a with
        ch1 := a.ch1.clockLength, ch2 := a.ch2.clockLength
        ch3 := a.ch3.clockLength, ch4 := a.ch4.clockLength }
    else a) := by
    refine ⟨_, ?_, ?_, rfl⟩
    · split
      · exact ⟨a.ch1.legal_clockLength h.ch1, a.ch2.legal_clockLength h.ch2,
          a.ch3.legal_clockLength h.ch3, a.ch4.legal_clockLength h.ch4, h.sweep, h.counter, h.step,
          h.rate, h.acc⟩
      · exact h
    · split <;> rfl
  obtain ⟨b, hb, hp, he⟩ := e1
  rw [← he]
  dsimp only
  have e2 : ∃ c : Apu, c.Ranges ∧ c.power = a.power ∧ c = (if a.fsStep = 2 ∨ a.fsStep = 6 then
      { b with sweep := (sweepClock b.sweep b.ch1).1, ch1 := (sweepClock b.sweep b.ch1).2 }
    else b) := by
    refine ⟨_, ?_, ?_, rfl⟩
    · split
      · obtain ⟨s1, s2⟩ := sweepClock_legal b.sweep b.ch1 hb.sweep hb.ch1
        exact ⟨s2, hb.ch2, hb.ch3, hb.ch4, s1, hb.counter, hb.step, hb.rate, hb.acc⟩
      · exact hb
    · split <;> exact hp
  obtain ⟨c, hc, hp2, he2⟩ := e2
  rw [← he2]
  split
  · exact ⟨⟨c.ch1.legal_clockEnvelope hc.ch1, c.ch2.legal_clockEnvelope hc.ch2, hc.ch3,
      c.ch4.legal_clockEnvelope hc.ch4, hc.sweep, hc.counter, hc.step, hc.rate, hc.acc⟩, hp2⟩
  · exact ⟨hc, hp2⟩

theorem Apu.ranges_sequence (a : Apu) (h : a.Ranges) :
    a.sequence.Ranges ∧ a.sequence.power = a.power := by
  unfold Apu.sequence
  split
  · obtain ⟨h1, h2⟩ := a.ranges_fsClock h
    exact ⟨⟨h1.ch1, h1.ch2, h1.ch3, h1.ch4, h1.sweep, by simp, Nat.mod_lt _ (by decide), h1.rate,
      h1.acc⟩, h2⟩
  · have := h.counter
    exact ⟨⟨h.ch1, h.ch2, h.ch3, h.ch4, h.sweep, by simp only; omega, h.step, h.rate, h.acc⟩, rfl⟩

theorem Apu.ranges_channels (ram : Store) (a : Apu) (h : a.Ranges) : (a.channels ram).Ranges :=
  ⟨a.ch1.legal_timerTick h.ch1, a.ch2.legal_timerTick h.ch2, a.ch3.legal_timerTick ram h.ch3,
    a.ch4.legal_timerTick h.ch4, h.sweep, h.counter, h.step, h.rate, h.acc⟩

theorem Apu.legal_output (a : Apu) (h : a.legal = true) : a.output.legal = true := by
  obtain ⟨h1, h2, h3, h4, h5, h6, h7, h8, h9, h10⟩ := (Apu.legal_iff a).1 h
  unfold Apu.output
  split
  · exact (Apu.legal_iff _).2 ⟨h1, h2, h3, h4, h5, h6, h7, h8, by simp only; omega, h10⟩
  · exact (Apu.legal_iff _).2 ⟨h1, h2, h3, h4, h5, h6, h7, h8, by simp only; omega, h10⟩

theorem Apu.legal_tick (ram : Store) (a : Apu) (h : a.legal = true) : (a.tick ram).legal = true := by
  unfold Apu.tick
  apply Apu.legal_output
  split
  · obtain ⟨h1, h2⟩ := a.ranges_sequence (.of_legal h)
    exact (Apu.ranges_channels ram _ h1).on (h2.trans (by assumption))
  · exact h

/-! ## Register writes -/

theorem Pulse.legal_writeControl (b : Bool) (v : Byte) (c : Pulse) (h : c.legal = true) :
    (c.writeControl b v).legal = true := by
  obtain ⟨h1, h2, h3, h4, h5⟩ := (Pulse.legal_iff c).1 h
  have hl := Nat.le_trans (extraClock_fst_le c.lenEn b c.on c.length v) h1
  unfold Pulse.writeControl
  split
  · exact (Pulse.legal_iff _).2 ⟨triggerLength_le _ _ _ _ hl, h2, envelopeVolume_le _,
      envelopePace_le _, fun ho => ho⟩
  · exact (Pulse.legal_iff _).2 ⟨hl, h2, h3, h4, fun ho => h5 (extraClock_snd _ _ _ _ _ ho)⟩

theorem Wave.legal_writeControl (b : Bool) (v : Byte) (c : Wave) (h : c.legal = true) :
    (c.writeControl b v).legal = true := by
  obtain ⟨h1, h2, h3⟩ := (Wave.legal_iff c).1 h
  have hl := Nat.le_trans (extraClock_fst_le c.lenEn b c.on c.length v) h1
  unfold Wave.writeControl
  split
  · exact (Wave.legal_iff _).2 ⟨triggerLength_le _ _ _ _ hl, by simp [Wave.trigger], fun ho => ho⟩
  · exact (Wave.legal_iff _).2 ⟨hl, h2, fun ho => h3 (extraClock_snd _ _ _ _ _ ho)⟩

theorem Noise.legal_writeControl (b : Bool) (v : Byte) (c : Noise) (h : c.legal = true) :
    (c.writeControl b v).legal = true := by
  obtain ⟨h1, h2, h3, h4⟩ := (Noise.legal_iff c).1 h
  have hl := Nat.le_trans (extraClock_fst_le c.lenEn b c.on c.length v) h1
  unfold Noise.writeControl
  split
  · exact (Noise.legal_iff _).2 ⟨triggerLength_le _ _ _ _ hl, envelopeVolume_le _, envelopePace_le _,
      fun ho => ho⟩
  · exact (Noise.legal_iff _).2 ⟨hl, h2, h3, fun ho => h4 (extraClock_snd _ _ _ _ _ ho)⟩

theorem loadLength64_le (v : Byte) : loadLength64 v ≤ 64 := by unfold loadLength64; omega

theorem loadLength256_le (v : Byte) : loadLength256 v ≤ 256 := by unfold loadLength256; omega

theorem Pulse.legal_length (c : Pulse) (n : Nat) (hn : n ≤ 64) (h : c.legal = true) :
    ({ c with length := n } : Pulse).legal = true := by
  obtain ⟨h1, h2, h3, h4, h5⟩ := (Pulse.legal_iff c).1 h
  exact (Pulse.legal_iff _).2 ⟨hn, h2, h3, h4, h5⟩

theorem Wave.legal_length (c : Wave) (n : Nat) (hn : n ≤ 256) (h : c.legal = true) :
    ({ c with length := n } : Wave).legal = true := by
  obtain ⟨h1, h2, h3⟩ := (Wave.legal_iff c).1 h
  exact (Wave.legal_iff _).2 ⟨hn, h2, h3⟩

theorem Noise.legal_length (c : Noise) (n : Nat) (hn : n ≤ 64) (h : c.legal = true) :
    ({ c with length := n } : Noise).legal = true := by
  obtain ⟨h1, h2, h3, h4⟩ := (Noise.legal_iff c).1 h
  exact (Noise.legal_iff _).2 ⟨hn, h2, h3, h4⟩

theorem Pulse.legal_writeEnvelope (v : Byte) (c : Pulse) (h : c.legal = true) :
    (c.writeEnvelope v).legal = true := by
  obtain ⟨h1, h2, h3, h4, -⟩ := (Pulse.legal_iff c).1 h
  refine (Pulse.legal_iff _).2 ⟨h1, h2, h3, h4, fun ho => ?_⟩
  simp only [Pulse.writeEnvelope, Bool.and_eq_true] at ho
  exact ho.2

theorem Noise.legal_writeEnvelope (v : Byte) (c : Noise) (h : c.legal = true) :
    (c.writeEnvelope v).legal = true := by
  obtain ⟨h1, h2, h3, -⟩ := (Noise.legal_iff c).1 h
  refine (Noise.legal_iff _).2 ⟨h1, h2, h3, fun ho => ?_⟩
  simp only [Noise.writeEnvelope, Bool.and_eq_true] at ho
  exact ho.2

theorem Wave.legal_writeDac (v : Byte) (c : Wave) (h : c.legal = true) : (c.writeDac v).legal = true := by
  obtain ⟨h1, h2, -⟩ := (Wave.legal_iff c).1 h
  refine (Wave.legal_iff _).2 ⟨h1, h2, fun ho => ?_⟩
  simp only [Wave.writeDac, Bool.and_eq_true] at ho
  exact ho.2

theorem Apu.Ranges.ch1Of {a : Apu} (h : a.Ranges) (c : Pulse) (hc : c.legal = true) :
    ({ a with ch1 := c } : Apu).Ranges :=
  ⟨hc, h.ch2, h.ch3, h.ch4, h.sweep, h.counter, h.step, h.rate, h.acc⟩

theorem Apu.Ranges.ch2Of {a : Apu} (h : a.Ranges) (c : Pulse) (hc : c.legal = true) :
    ({ a with ch2 := c } : Apu).Ranges :=
  ⟨h.ch1, hc, h.ch3, h.ch4, h.sweep, h.counter, h.step, h.rate, h.acc⟩

theorem Apu.Ranges.ch3Of {a : Apu} (h : a.Ranges) (c : Wave) (hc : c.legal = true) :
    ({ a with ch3 := c } : Apu).Ranges :=
  ⟨h.ch1, h.ch2, hc, h.ch4, h.sweep, h.counter, h.step, h.rate, h.acc⟩

theorem Apu.Ranges.ch4Of {a : Apu} (h : a.Ranges) (c : Noise) (hc : c.legal = true) :
    ({ a with ch4 := c } : Apu).Ranges :=
  ⟨h.ch1, h.ch2, h.ch3, hc, h.sweep, h.counter, h.step, h.rate, h.acc⟩

theorem Apu.ranges_writeNr10 (v : Byte) (a : Apu) (h : a.Ranges) : (a.writeNr10 v).Ranges := by
  obtain ⟨h1, h2, h3, h4, h5⟩ := (Pulse.legal_iff a.ch1).1 h.ch1
  refine ⟨(Pulse.legal_iff _).2 ⟨h1, h2, h3, h4, fun ho => h5 ?_⟩, h.ch2, h.ch3, h.ch4, h.sweep,
    h.counter, h.step, h.rate, h.acc⟩
  simp only [Apu.writeNr10, Bool.and_eq_true] at ho
  exact ho.1

theorem Apu.ranges_writeNr14 (v : Byte) (a : Apu) (h : a.Ranges) : (a.writeNr14 v).Ranges := by
  have hc := Pulse.legal_writeControl a.fsOdd v a.ch1 h.ch1
  unfold Apu.writeNr14
  dsimp only
  split
  · obtain ⟨s1, s2⟩ := sweepInit_legal a.sweep _ hc
    exact ⟨s2, h.ch2, h.ch3, h.ch4, s1, h.counter, h.step, h.rate, h.acc⟩
  · exact h.ch1Of _ hc

theorem Apu.ranges_writeOn (r : IoReg) (v : Byte) (a : Apu) (h : a.Ranges) : (a.writeOn r v).Ranges := by
  cases r
  case nr10 => exact a.ranges_writeNr10 v h
  case nr11 => exact h.ch1Of _ (Pulse.legal_length _ _ (loadLength64_le v) h.ch1)
  case nr12 => exact h.ch1Of _ (Pulse.legal_writeEnvelope v _ h.ch1)
  case nr13 => exact h.ch1Of _ h.ch1
  case nr14 => exact a.ranges_writeNr14 v h
  case nr21 => exact h.ch2Of _ (Pulse.legal_length _ _ (loadLength64_le v) h.ch2)
  case nr22 => exact h.ch2Of _ (Pulse.legal_writeEnvelope v _ h.ch2)
  case nr23 => exact h.ch2Of _ h.ch2
  case nr24 => exact h.ch2Of _ (Pulse.legal_writeControl _ v _ h.ch2)
  case nr30 => exact h.ch3Of _ (Wave.legal_writeDac v _ h.ch3)
  case nr31 => exact h.ch3Of _ (Wave.legal_length _ _ (loadLength256_le v) h.ch3)
  case nr32 => exact h.ch3Of _ h.ch3
  case nr33 => exact h.ch3Of _ h.ch3
  case nr34 => exact h.ch3Of _ (Wave.legal_writeControl _ v _ h.ch3)
  case nr41 => exact h.ch4Of _ (Noise.legal_length _ _ (loadLength64_le v) h.ch4)
  case nr42 => exact h.ch4Of _ (Noise.legal_writeEnvelope v _ h.ch4)
  case nr43 => exact h.ch4Of _ h.ch4
  case nr44 => exact h.ch4Of _ (Noise.legal_writeControl _ v _ h.ch4)
  case nr50 => exact ⟨h.ch1, h.ch2, h.ch3, h.ch4, h.sweep, h.counter, h.step, h.rate, h.acc⟩
  case nr51 => exact ⟨h.ch1, h.ch2, h.ch3, h.ch4, h.sweep, h.counter, h.step, h.rate, h.acc⟩
  all_goals exact h

theorem Apu.writeOn_power (r : IoReg) (v : Byte) (a : Apu) : (a.writeOn r v).power = a.power := by
  cases r <;> try rfl
  simp only [Apu.writeOn, Apu.writeNr14]
  split <;> rfl

theorem Apu.legal_writeOff (b : Bool) (r : IoReg) (v : Byte) (a : Apu) (h : a.legal = true) :
    (a.writeOff b r v).legal = true := by
  have hr := Apu.Ranges.of_legal h
  obtain ⟨-, -, -, -, -, -, -, -, -, hp⟩ := (Apu.legal_iff a).1 h
  unfold Apu.writeOff
  split
  · exact h
  · split
    · exact (hr.ch1Of _ (Pulse.legal_length _ _ (loadLength64_le v) hr.ch1)).legal hp
    · exact (hr.ch2Of _ (Pulse.legal_length _ _ (loadLength64_le v) hr.ch2)).legal hp
    · exact (hr.ch3Of _ (Wave.legal_length _ _ (loadLength256_le v) hr.ch3)).legal hp
    · exact (hr.ch4Of _ (Noise.legal_length _ _ (loadLength64_le v) hr.ch4)).legal hp
    · exact h

theorem Apu.legal_powerOff (b : Bool) (a : Apu) (h : a.legal = true) : (a.powerOff b).legal = true := by
  have hr := Apu.Ranges.of_legal h
  obtain ⟨h1, h2, h3, h4, -⟩ := (Pulse.legal_iff a.ch1).1 hr.ch1
  obtain ⟨i1, i2, i3, i4, -⟩ := (Pulse.legal_iff a.ch2).1 hr.ch2
  obtain ⟨j1, j2, -⟩ := (Wave.legal_iff a.ch3).1 hr.ch3
  obtain ⟨k1, k2, k3, -⟩ := (Noise.legal_iff a.ch4).1 hr.ch4
  have hl : ∀ n full : Nat, n ≤ full → (if b = true then 0 else n) ≤ full := by
    intro n full hn; split <;> omega
  exact Apu.Ranges.legal ⟨(Pulse.legal_iff _).2 ⟨hl _ _ h1, h2, h3, h4, by simp [Apu.powerOff, Pulse.powerOff]⟩,
    (Pulse.legal_iff _).2 ⟨hl _ _ i1, i2, i3, i4, by simp [Apu.powerOff, Pulse.powerOff]⟩,
    (Wave.legal_iff _).2 ⟨hl _ _ j1, j2, by simp [Apu.powerOff, Wave.powerOff]⟩,
    (Noise.legal_iff _).2 ⟨hl _ _ k1, k2, k3, by simp [Apu.powerOff, Noise.powerOff]⟩,
    hr.sweep, hr.counter, hr.step, hr.rate, hr.acc⟩ fun _ => ⟨rfl, rfl, rfl, rfl⟩

theorem Apu.legal_powerOn (a : Apu) (h : a.legal = true) : a.powerOn.legal = true := by
  have hr := Apu.Ranges.of_legal h
  obtain ⟨h1, h2, h3, h4, h5⟩ := (Pulse.legal_iff a.ch1).1 hr.ch1
  obtain ⟨i1, i2, i3, i4, i5⟩ := (Pulse.legal_iff a.ch2).1 hr.ch2
  exact Apu.Ranges.on ⟨(Pulse.legal_iff _).2 ⟨h1, by simp [Apu.powerOn], h3, h4, h5⟩,
    (Pulse.legal_iff _).2 ⟨i1, by simp [Apu.powerOn], i3, i4, i5⟩, hr.ch3, hr.ch4, hr.sweep,
    by simp [Apu.powerOn], by simp [Apu.powerOn], hr.rate, hr.acc⟩ rfl

/-- Every CPU write to an APU register keeps the APU legal. -/
theorem Apu.legal_write (b : Bool) (r : IoReg) (v : Byte) (a : Apu) (h : a.legal = true) :
    (a.write b r v).legal = true := by
  unfold Apu.write
  split
  · unfold Apu.writeNr52
    split
    · exact a.legal_powerOff b h
    · split
      · exact a.legal_powerOn h
      · exact h
  · split
    · exact (a.ranges_writeOn r v (.of_legal h)).on ((a.writeOn_power r v).trans (by assumption))
    · exact a.legal_writeOff b r v h

/-! ## The units in numbers -/

/-- A length clock in the words of Safety.lean. -/
theorem lengthAfter_eq (k en on : Bool) (n : Nat) :
    lengthAfter k en on n = if k then lengthClock en on n else (n, on) := by
  unfold lengthAfter lengthClock
  cases k <;> cases en <;> simp
  by_cases h : n = 0
  · simp [h]
  · rw [if_pos (by omega)]
    simp [h]
    by_cases h1 : n = 1
    · simp [h1]
    · have : n - 1 ≠ 0 := by omega
      simp [h1, this]

/-- A bit of a register as a number. -/
theorem getLsbD_num {w : Nat} (v : BitVec w) (k : Nat) :
    v.getLsbD k = decide (v.toNat / 2 ^ k % 2 = 1) := by
  rw [BitVec.getLsbD, Nat.testBit_eq_decide_div_mod_eq]

/-- An envelope clock in the words of Safety.lean. -/
theorem envelopeAfter_eq (k : Bool) (r : Byte) (v t : Nat) :
    envelopeAfter k r v t = if k then envelopeClock r v t else (v, t) := by
  have pace : envelopePace r = r.toNat % 8 := by simp [envelopePace]
  have up : r.getLsbD 3 = decide (r.toNat / 8 % 2 = 1) := getLsbD_num r 3
  cases k
  · simp [envelopeAfter]
  · simp only [envelopeAfter, envelopeClock, pace, up, Bool.true_eq_false, false_or, if_true]
    by_cases hp : r.toNat % 8 = 0
    · rw [if_pos hp, if_pos hp]
    · rw [if_neg hp, if_neg hp]
      by_cases h : 1 < t
      · rw [if_pos h, if_neg (Nat.not_le.2 h)]
      · rw [if_neg h, if_pos (Nat.not_lt.1 h)]
        rcases Nat.mod_two_eq_zero_or_one (r.toNat / 8) with h2 | h2 <;> simp [h2]

/-- A pulse timer in the words of Safety.lean. -/
theorem pulseAfter_eq (c : Pulse) : pulseAfter c = c.timerTick := by
  unfold pulseAfter Pulse.timerTick
  by_cases h : 1 < c.freqTimer
  · rw [if_neg (Nat.not_le.2 h)]; simp [h]
  · rw [if_pos (Nat.not_lt.1 h)]; simp [h, pulsePeriod]

/-- A wave timer in the words of Safety.lean. -/
theorem waveAfter_eq (ram : Store) (c : Wave) : waveAfter ram c = c.timerTick ram := by
  have hi (b : Byte) : b.extractLsb' 4 4 = BitVec.ofNat 4 (b.toNat / 16) := by
    apply BitVec.eq_of_toNat_eq; simp [Nat.shiftRight_eq_div_pow]
  have lo (b : Byte) : b.extractLsb' 0 4 = BitVec.ofNat 4 (b.toNat % 16) := by
    apply BitVec.eq_of_toNat_eq; simp
  unfold waveAfter Wave.timerTick
  by_cases h : 1 < c.freqTimer
  · rw [if_neg (Nat.not_le.2 h), if_pos h]
  · rw [if_pos (Nat.not_lt.1 h), if_neg h]
    simp only [wavePeriod, waveSample, hi, lo]
    split <;> rfl

/-- The noise period in the words of Safety.lean. -/
theorem noiseReload_eq (v : Byte) : noiseReload v = noisePeriod v := by
  have h := v.isLt
  simp only [noiseReload, noisePeriod, BitVec.extractLsb'_toNat, Nat.shiftRight_eq_div_pow]
  rw [show v.toNat / 2 ^ 4 % 2 ^ 4 = v.toNat / 16 by omega, show v.toNat / 2 ^ 0 % 2 ^ 3 = v.toNat % 8 by omega]

end Sys2Proof.Machine
end

