-- ==== Sys2Proof/Laws/Step.lean ====
section
/-! SUPPORT. The step's three phases, each said once: what the CPU phase, a master cycle and the end
phase can do, the cost of a step, and that devices stay in their legal ranges through all of them. -/

namespace Sys2Proof.Machine

/-! ## Devices and memories in their ranges -/

/-- `State.legal` without the CPU's part. -/
structure DevLegal (s : State) : Prop where
  timer : s.timer.legal = true
  serial : s.serial.legal = true
  dma : s.dma.legal = true
  ppu : s.ppu.legal = true
  apu : s.apu.legal = true
  cart : s.cart.mapper.legal = true
  mem : s.mem.wf = true

theorem State.legal_iff (s : State) : s.legal = true ↔ s.cpu.legal = true ∧ DevLegal s := by
  simp only [State.legal, Bool.and_eq_true]
  constructor
  · rintro ⟨⟨⟨⟨⟨⟨⟨h1, h2⟩, h3⟩, h4⟩, h5⟩, h6⟩, h7⟩, h8⟩
    exact ⟨h1, h2, h3, h4, h5, h6, h7, h8⟩
  · rintro ⟨h1, h2, h3, h4, h5, h6, h7, h8⟩
    exact ⟨⟨⟨⟨⟨⟨⟨h1, h2⟩, h3⟩, h4⟩, h5⟩, h6⟩, h7⟩, h8⟩

theorem Ppu.legal_congr {p q : Ppu} (h : p.legal = true) (h1 : q.ly = p.ly) (h2 : q.dot = p.dot)
    (h3 : q.mode3Len = p.mode3Len) (h4 : q.lcdOn = p.lcdOn) (h5 : q.lcdc = p.lcdc)
    (h6 : q.mode = p.mode) (h7 : q.statLine = p.statLine) (h8 : q.framebuffer = p.framebuffer) :
    q.legal = true := by
  simpa only [Ppu.legal, h1, h2, h3, h4, h5, h6, h7, h8] using h

/-- Every CPU write to an I/O register keeps every device legal. -/
theorem DevLegal.ioWrite {s : State} (h : DevLegal s) (r : IoReg) (v : Byte) : DevLegal (s.ioWrite r v) := by
  have hm := State.ioWrite_wf s v r h.mem
  cases r
  case sc => exact ⟨h.timer, s.serial.legal_writeSc v h.serial, h.dma, h.ppu, h.apu, h.cart, hm⟩
  case div => exact ⟨s.timer.legal_divReset _ h.timer, h.serial, h.dma, h.ppu, h.apu, h.cart, hm⟩
  case tima => exact ⟨s.timer.legal_writeTima v h.timer, h.serial, h.dma, h.ppu, h.apu, h.cart, hm⟩
  case tma => exact ⟨s.timer.legal_writeTma v h.timer, h.serial, h.dma, h.ppu, h.apu, h.cart, hm⟩
  case tac => exact ⟨s.timer.legal_writeTac _ v h.timer, h.serial, h.dma, h.ppu, h.apu, h.cart, hm⟩
  case lcdc => exact ⟨h.timer, h.serial, h.dma, s.ppu.legal_writeLcdc v h.ppu, h.apu, h.cart, hm⟩
  case dma => exact ⟨h.timer, h.serial, s.dma.legal_trigger _ v h.dma, h.ppu, h.apu, h.cart, hm⟩
  case nr10 | nr11 | nr12 | nr13 | nr14 | nr21 | nr22 | nr23 | nr24 | nr30 | nr31 | nr32 | nr33 |
      nr34 | nr41 | nr42 | nr43 | nr44 | nr50 | nr51 | nr52 =>
    exact ⟨h.timer, h.serial, h.dma, h.ppu, s.apu.legal_write _ _ v h.apu, h.cart, hm⟩
  all_goals exact ⟨h.timer, h.serial, h.dma, h.ppu, h.apu, h.cart, hm⟩

/-- Every CPU write keeps every device legal. -/
theorem DevLegal.store {s : State} (h : DevLegal s) (a : Word) (v : Byte) : DevLegal (s.storeByte a v) := by
  have hm := s.storeByte_wf a v h.mem
  unfold State.storeByte at hm ⊢
  split at hm <;> rename_i ht
  · exact ⟨h.timer, h.serial, h.dma, h.ppu, h.apu, s.cart.legal_control _ v h.cart, hm⟩
  · split
    · exact h
    · rename_i hb
      simp only [hb] at hm
      exact ⟨h.timer, h.serial, h.dma, h.ppu, h.apu, h.cart, hm⟩
  · exact ⟨h.timer, h.serial, h.dma, h.ppu, h.apu, cartRamControl_legal _ _ v h.cart, hm⟩
  · exact ⟨h.timer, h.serial, h.dma, h.ppu, h.apu, h.cart, hm⟩
  · split
    · exact h
    · rename_i hb
      simp only [hb] at hm
      exact ⟨h.timer, h.serial, h.dma, h.ppu, h.apu, h.cart, hm⟩
  · exact h
  · exact h.ioWrite _ v
  · exact ⟨h.timer, h.serial, h.dma, h.ppu, h.apu, h.cart, hm⟩
  · exact ⟨h.timer, h.serial, h.dma, h.ppu, h.apu, h.cart, hm⟩

/-- What the CPU phase can do keeps every device legal. -/
theorem Reach.devLegal {s t : State} (h : Reach s t) (hs : DevLegal s) : DevLegal t := by
  induction h with
  | refl => exact hs
  | cpu _ c ih => exact ⟨ih.timer, ih.serial, ih.dma, ih.ppu, ih.apu, ih.cart, ih.mem⟩
  | cost _ k ih => exact ⟨ih.timer, ih.serial, ih.dma, ih.ppu, ih.apu, ih.cart, ih.mem⟩
  | draw _ n ih => exact ⟨ih.timer, ih.serial, ih.dma, ih.ppu, ih.apu, ih.cart, ih.mem⟩
  | store _ a v _ ih => exact ih.store a v
  | divReset _ ih =>
    exact ⟨Timer.legal_divReset _ _ ih.timer, ih.serial, ih.dma, ih.ppu, ih.apu, ih.cart, ih.mem⟩
  | ack _ i ih => exact ⟨ih.timer, ih.serial, ih.dma, ih.ppu, ih.apu, ih.cart, ih.mem⟩

/-- The fields that a run never changes: the ROM image (R147), the console mode (R3), the subsystem
toggles (R94) and the version string. -/
structure Fixed (s t : State) : Prop where
  rom : t.mem.rom = s.mem.rom
  model : t.model = s.model
  enable : t.enable = s.enable
  version : t.version = s.version
  fault : t.fault = s.fault

theorem Fixed.refl (s : State) : Fixed s s := ⟨rfl, rfl, rfl, rfl, rfl⟩

theorem Fixed.trans {s t u : State} (h : Fixed s t) (k : Fixed t u) : Fixed s u :=
  ⟨k.rom.trans h.rom, k.model.trans h.model, k.enable.trans h.enable, k.version.trans h.version,
    k.fault.trans h.fault⟩

theorem Fixed.store (s : State) (a : Word) (v : Byte) : Fixed s (s.storeByte a v) :=
  ⟨by simp, by simp, by simp, by simp, by simp⟩

theorem Reach.fixed {s t : State} (h : Reach s t) : Fixed s t ∧ t.cycles = s.cycles := by
  induction h with
  | refl => exact ⟨.refl s, rfl⟩
  | cpu _ c ih => exact ⟨⟨ih.1.rom, ih.1.model, ih.1.enable, ih.1.version, ih.1.fault⟩, ih.2⟩
  | cost _ k ih => exact ⟨⟨ih.1.rom, ih.1.model, ih.1.enable, ih.1.version, ih.1.fault⟩, ih.2⟩
  | draw _ n ih => exact ⟨⟨ih.1.rom, ih.1.model, ih.1.enable, ih.1.version, ih.1.fault⟩, ih.2⟩
  | store _ a v _ ih => exact ⟨ih.1.trans (.store _ a v), by simpa using ih.2⟩
  | divReset _ ih => exact ⟨⟨ih.1.rom, ih.1.model, ih.1.enable, ih.1.version, ih.1.fault⟩, ih.2⟩
  | ack _ i ih => exact ⟨⟨ih.1.rom, ih.1.model, ih.1.enable, ih.1.version, ih.1.fault⟩, ih.2⟩

/-! ## The fetch -/

/-- A read that is handed on reads as some value; what follows sees at most the draw counter changed. -/
theorem fetchThen_next {α : Type} {s : State} {k : Instr → State → Answer α} {t : α}
    (h : fetchThen s k = .next t) : ∃ i u, u = { s with draws := u.draws } ∧ k i u = .next t := by
  unfold fetchThen at h
  obtain ⟨v, s1, hr, h⟩ := withRead_next _ h
  have e1 := hr.state
  dsimp only at h
  split at h
  · exact ⟨_, s1, e1, h⟩
  · obtain ⟨v2, s2, hr2, h⟩ := withRead_next _ h
    have e2 := hr2.state
    exact ⟨_, s2, by rw [e2, e1], h⟩
  · obtain ⟨v2, s2, hr2, h⟩ := withRead_next _ h
    obtain ⟨v3, s3, hr3, h⟩ := withRead_next _ h
    have e2 := hr2.state
    have e3 := hr3.state
    exact ⟨_, s3, by rw [e3, e2, e1], h⟩

theorem runInstr_next {s t : State} (h : runInstr s = .next t) :
    ∃ i u v, u = { s with draws := u.draws } ∧ exec i u = .next v ∧ t = v.promote s.cpu.imeDelay := by
  obtain ⟨v, h1, h2⟩ := chain_next.1 h
  obtain ⟨i, u, hu, hx⟩ := fetchThen_next h1
  cases h2
  exact ⟨i, u, v, hu, hx, rfl⟩

/-! ## The CPU phase -/

/-- What a CPU phase leaves. -/
structure Phase (s t : State) : Prop where
  reach : Reach s t
  cost : t.stepCost % 4 = 0 ∧ 4 ≤ t.stepCost ∧ t.stepCost ≤ Config.maxStepCost
  cpu : s.cpu.legal = true → t.cpu.legal = true

theorem promote_reach {s t : State} (b : Bool) (h : Reach s t) : Reach s (t.promote b) := by
  unfold State.promote
  split
  · exact h.cpu _
  · exact h

@[simp] theorem promote_stepCost (t : State) (b : Bool) : (t.promote b).stepCost = t.stepCost := by
  unfold State.promote; split <;> rfl

@[simp] theorem promote_halted (t : State) (b : Bool) : (t.promote b).cpu.halted = t.cpu.halted := by
  unfold State.promote; split <;> rfl

@[simp] theorem promote_stopped (t : State) (b : Bool) : (t.promote b).cpu.stopped = t.cpu.stopped := by
  unfold State.promote; split <;> rfl

@[simp] theorem promote_haltBug (t : State) (b : Bool) : (t.promote b).cpu.haltBug = t.cpu.haltBug := by
  unfold State.promote; split <;> rfl

theorem takeInterrupt_next {s t : State} {i : Nat} (h : takeInterrupt i s = .next t) :
    Reach s t ∧ t.stepCost = s.stepCost + 20 ∧ t.cpu.halted = s.cpu.halted ∧
      t.cpu.stopped = s.cpu.stopped ∧ t.cpu.haltBug = false := by
  obtain ⟨u, h1, h2⟩ := chain_next.1 h
  have k := Kept.pushWord h1
  cases h2
  refine ⟨?_, ?_, k.halted, k.stopped, k.haltBug⟩
  · exact .cost (.cpu (.ack ((Reach.cpu .refl _).trans k.reach) i) _) _
  · have := k.cost
    show u.stepCost + 20 = s.stepCost + 20
    rw [this]; rfl

/-- A dispatch or an instruction, run by a CPU that is neither halted nor stopped. -/
theorem runAwake_next {s t : State} (h : runAwake s = .next t) (hh : s.cpu.halted = false)
    (hs : s.cpu.stopped = false) :
    Reach s t ∧ (∃ c, CostOk c ∧ t.stepCost = s.stepCost + c) ∧ t.cpu.legal = true := by
  unfold runAwake at h
  split at h
  · obtain ⟨h1, h2, h3, h4, h5⟩ := takeInterrupt_next h
    exact ⟨h1, ⟨20, by decide, h2⟩, by simp [Cpu.legal, h3, h4, h5, hh]⟩
  · obtain ⟨i, u, v, hu, hx, rfl⟩ := runInstr_next h
    have r := exec_ran hx
    have hreach : Reach s u := by rw [hu]; exact .draw .refl _
    have e1 : u.cpu = s.cpu := by rw [hu]
    have e2 : u.stepCost = s.stepCost := by rw [hu]
    obtain ⟨c, hc, hcost⟩ := r.cost
    refine ⟨promote_reach _ (hreach.trans r.reach), ⟨c, hc, by simp [hcost, e2]⟩, ?_⟩
    rcases r.excl with ⟨x, y, z⟩ | ⟨x, y, z⟩ | ⟨x, y, z⟩ | ⟨x, y, z⟩ <;>
      simp [Cpu.legal, x, y, z, e1, hh, hs]

/-- What the CPU phase can do, said once. -/
theorem cpuPhase_next {s t : State} (h : cpuPhase s = .next t) : Phase s t := by
  unfold cpuPhase at h
  dsimp only at h
  split at h
  · rename_i hi
    cases h
    have e : (s.beginStep.addCost 4).stepCost = 4 := rfl
    exact ⟨.cost (.cost .refl _) _, by rw [e]; decide, fun hl => hl⟩
  · rename_i hi
    have hst : s.cpu.stopped = false := by
      simp only [State.idles, State.beginStep, Bool.or_eq_true, not_or, Bool.not_eq_true] at hi
      exact hi.1
    split at h
    · obtain ⟨h1, ⟨c, ⟨h2, h3, h4⟩, h5⟩, h6⟩ := runAwake_next h rfl hst
      have h5' : t.stepCost = 4 + c := by simpa [State.wake, State.addCost, State.beginStep] using h5
      exact ⟨(Reach.cost (.cpu (.cost .refl _) _) _).trans h1,
        ⟨by omega, by omega, by simp only [Config.maxStepCost]; omega⟩, fun _ => h6⟩
    · rename_i hh
      obtain ⟨h1, ⟨c, ⟨h2, h3, h4⟩, h5⟩, h6⟩ := runAwake_next h (by simpa using hh) hst
      have h5' : t.stepCost = c := by simpa [State.beginStep] using h5
      exact ⟨(Reach.cost .refl _).trans h1,
        ⟨by omega, by omega, by simp only [Config.maxStepCost]; omega⟩, fun _ => h6⟩

/-! ## The device phase -/

theorem DevLegal.timerPhase {s : State} (h : DevLegal s) : DevLegal s.timerPhase := by
  unfold State.timerPhase
  split
  · exact ⟨s.timer.legal_tick h.timer, h.serial, h.dma, h.ppu, h.apu, h.cart, h.mem⟩
  · exact h

theorem State.dmaTick_fields (s : State) :
    s.dmaTick = { s with dma := s.dmaTick.dma, mem := { s.mem with oam := s.dmaTick.mem.oam } } := by
  unfold State.dmaTick State.dmaCopy
  split
  · rfl
  · split <;> rfl

theorem State.dmaTick_wf (s : State) (h : s.mem.wf = true) : s.dmaTick.mem.wf = true := by
  unfold State.dmaTick State.dmaCopy
  split
  · exact h
  · split
    · obtain ⟨h1, h2, h3, h4, h5, h6, h7⟩ := (Memory.wf_iff s.mem).1 h
      exact (Memory.wf_iff _).2 ⟨h1, h2, h3, Store.wf_write _ h4 _ _, h5, h6, h7⟩
    · exact h

theorem DevLegal.dmaPhase {s : State} (h : DevLegal s) : DevLegal s.dmaPhase := by
  unfold State.dmaPhase
  split
  · have hd := s.dmaTick_legal h.dma
    have hm := s.dmaTick_wf h.mem
    rw [s.dmaTick_fields] at hd hm ⊢
    exact ⟨h.timer, h.serial, hd, h.ppu, h.apu, h.cart, hm⟩
  · exact h

theorem DevLegal.serialPhase {s : State} (h : DevLegal s) : DevLegal s.serialPhase := by
  unfold State.serialPhase
  split
  · exact ⟨h.timer, s.serial.legal_tick _ h.serial, h.dma, h.ppu, h.apu, h.cart, h.mem⟩
  · exact h

theorem DevLegal.apuPhase {s : State} (h : DevLegal s) : DevLegal s.apuPhase := by
  unfold State.apuPhase
  split
  · exact ⟨h.timer, h.serial, h.dma, h.ppu, s.apu.legal_tick _ h.apu, h.cart, h.mem⟩
  · exact h

theorem DevLegal.ppuPhase {s : State} (h : DevLegal s) : DevLegal s.ppuPhase := by
  unfold State.ppuPhase
  split
  · exact ⟨h.timer, h.serial, h.dma, s.ppu.legal_tick _ _ _ _ h.ppu, h.apu, h.cart, h.mem⟩
  · exact h

theorem DevLegal.masterCycle {s : State} (b : Bool) (h : DevLegal s) : DevLegal (s.masterCycle b) := by
  have hc : DevLegal s.countCycle := ⟨h.timer, h.serial, h.dma, h.ppu, h.apu, h.cart, h.mem⟩
  have key : DevLegal (if b then s.countCycle else s.countCycle.devices) := by
    split
    · exact hc
    · exact hc.timerPhase.dmaPhase.serialPhase.apuPhase.ppuPhase
  exact ⟨key.timer, key.serial, key.dma, key.ppu, key.apu, Cartridge.legal_rtcTick _ key.cart, key.mem⟩

theorem DevLegal.devicePhase (b : Bool) (n : Nat) {s : State} (h : DevLegal s) :
    DevLegal (devicePhase b n s) := by
  induction n generalizing s with
  | zero => exact h
  | succ n ih => exact ih (h.masterCycle b)

/-- What the devices of a master cycle never touch. -/
structure Ticked (s t : State) : Prop where
  fixed : Fixed s t
  cpu : t.cpu = s.cpu
  cycles : t.cycles = s.cycles
  stepCost : t.stepCost = s.stepCost
  joypad : t.joypad = s.joypad
  svbk : t.svbk = s.svbk
  waveRam : t.mem.waveRam = s.mem.waveRam
  vram : t.mem.vram = s.mem.vram
  wram : t.mem.wram = s.mem.wram
  hram : t.mem.hram = s.mem.hram
  cartRam : t.mem.cartRam = s.mem.cartRam

theorem Ticked.refl (s : State) : Ticked s s :=
  ⟨.refl s, rfl, rfl, rfl, rfl, rfl, rfl, rfl, rfl, rfl, rfl⟩

theorem Ticked.trans {s t u : State} (h : Ticked s t) (k : Ticked t u) : Ticked s u :=
  ⟨h.fixed.trans k.fixed, k.cpu.trans h.cpu, k.cycles.trans h.cycles, k.stepCost.trans h.stepCost,
    k.joypad.trans h.joypad, k.svbk.trans h.svbk, k.waveRam.trans h.waveRam, k.vram.trans h.vram,
    k.wram.trans h.wram, k.hram.trans h.hram, k.cartRam.trans h.cartRam⟩

theorem State.devices_ticked (s : State) : Ticked s s.devices := by
  have mk : ∀ u t : State, Fixed u t → t.cpu = u.cpu → t.cycles = u.cycles → t.stepCost = u.stepCost →
      t.joypad = u.joypad → t.svbk = u.svbk → t.mem = u.mem → Ticked u t :=
    fun u t h1 h2 h3 h4 h5 h6 h7 => ⟨h1, h2, h3, h4, h5, h6, by rw [h7], by rw [h7], by rw [h7],
      by rw [h7], by rw [h7]⟩
  have h1 : ∀ u : State, Ticked u u.timerPhase := fun u => by
    unfold State.timerPhase
    split
    · exact mk _ _ ⟨rfl, rfl, rfl, rfl, rfl⟩ rfl rfl rfl rfl rfl rfl
    · exact .refl u
  have h2 : ∀ u : State, Ticked u u.dmaPhase := fun u => by
    unfold State.dmaPhase
    split
    · rw [u.dmaTick_fields]
      exact ⟨⟨rfl, rfl, rfl, rfl, rfl⟩, rfl, rfl, rfl, rfl, rfl, rfl, rfl, rfl, rfl, rfl⟩
    · exact .refl u
  have h3 : ∀ u : State, Ticked u u.serialPhase := fun u => by
    unfold State.serialPhase
    split
    · exact mk _ _ ⟨rfl, rfl, rfl, rfl, rfl⟩ rfl rfl rfl rfl rfl rfl
    · exact .refl u
  have h4 : ∀ u : State, Ticked u u.apuPhase := fun u => by
    unfold State.apuPhase
    split
    · exact mk _ _ ⟨rfl, rfl, rfl, rfl, rfl⟩ rfl rfl rfl rfl rfl rfl
    · exact .refl u
  have h5 : ∀ u : State, Ticked u u.ppuPhase := fun u => by
    unfold State.ppuPhase
    split
    · exact mk _ _ ⟨rfl, rfl, rfl, rfl, rfl⟩ rfl rfl rfl rfl rfl rfl
    · exact .refl u
  exact (h1 s).trans ((h2 _).trans ((h3 _).trans ((h4 _).trans (h5 _))))

/-- A master cycle counts itself and leaves the CPU alone. -/
theorem State.masterCycle_ticked (s : State) (b : Bool) : Ticked s.countCycle (s.masterCycle b) := by
  have key : Ticked s.countCycle (if b then s.countCycle else s.countCycle.devices) := by
    split
    · exact .refl _
    · exact s.countCycle.devices_ticked
  exact ⟨⟨key.fixed.rom, key.fixed.model, key.fixed.enable, key.fixed.version, key.fixed.fault⟩,
    key.cpu, key.cycles, key.stepCost, key.joypad, key.svbk, key.waveRam, key.vram, key.wram, key.hram,
    key.cartRam⟩

/-- A device phase of `n` master cycles counts `n` of them and leaves the CPU alone. -/
theorem devicePhase_fields (b : Bool) (n : Nat) (s : State) :
    Ticked { s with cycles := s.cycles + n } (devicePhase b n s) := by
  induction n generalizing s with
  | zero => exact .refl s
  | succ n ih =>
    have h1 := s.masterCycle_ticked b
    have h2 := ih (s.masterCycle b)
    have e : (s.masterCycle b).cycles + n = s.cycles + (n + 1) := by
      rw [h1.cycles]; show s.cycles + 1 + n = _; omega
    refine ⟨⟨h2.fixed.rom.trans h1.fixed.rom, h2.fixed.model.trans h1.fixed.model,
      h2.fixed.enable.trans h1.fixed.enable, h2.fixed.version.trans h1.fixed.version,
      h2.fixed.fault.trans h1.fixed.fault⟩, h2.cpu.trans h1.cpu, h2.cycles.trans e,
      h2.stepCost.trans h1.stepCost, h2.joypad.trans h1.joypad, h2.svbk.trans h1.svbk,
      h2.waveRam.trans h1.waveRam, h2.vram.trans h1.vram, h2.wram.trans h1.wram,
      h2.hram.trans h1.hram, h2.cartRam.trans h1.cartRam⟩

/-! ## The step -/

/-- A step that answers a next state ran its three phases. -/
theorem step_next {s t : State} (h : step s = .next t) :
    s.fault = none ∧ ∃ u, cpuPhase s = .next u ∧
      t = endPhase s.cpu.stopped (devicePhase s.cpu.stopped u.stepCost u) := by
  unfold step runStep at h
  split at h
  · cases h
  · obtain ⟨u, h1, h2⟩ := chain_next.1 h
    cases h2
    exact ⟨by assumption, u, h1, rfl⟩

theorem endPhase_cpu (b : Bool) (s : State) :
    (endPhase b s).cpu = s.cpu ∨ (endPhase b s).cpu = { s.cpu with stopped := false } := by
  unfold endPhase State.leaveStop
  split
  · exact .inr rfl
  · exact .inl rfl

theorem endPhase_fields (b : Bool) (s : State) :
    Fixed s (endPhase b s) ∧ (endPhase b s).cycles = s.cycles ∧ (endPhase b s).stepCost = s.stepCost ∧
      (endPhase b s).mem = s.mem ∧ (endPhase b s).timer = s.timer ∧ (endPhase b s).serial = s.serial ∧
      (endPhase b s).dma = s.dma ∧ (endPhase b s).ppu = s.ppu ∧ (endPhase b s).apu = s.apu ∧
      (endPhase b s).cart = s.cart := by
  unfold endPhase State.leaveStop
  split <;> exact ⟨⟨rfl, rfl, rfl, rfl, rfl⟩, rfl, rfl, rfl, rfl, rfl, rfl, rfl, rfl, rfl⟩

theorem DevLegal.endPhase {s : State} (b : Bool) (h : DevLegal s) : DevLegal (endPhase b s) := by
  obtain ⟨-, -, -, h1, h2, h3, h4, h5, h6, h7⟩ := endPhase_fields b s
  exact ⟨h2 ▸ h.timer, h3 ▸ h.serial, h4 ▸ h.dma, h5 ▸ h.ppu, h6 ▸ h.apu, h7 ▸ h.cart, h1 ▸ h.mem⟩

end Sys2Proof.Machine
end

