-- ==== Sys2Proof/Laws/Frame.lean ====
section
/-! SUPPORT. The words of Safety.lean for frames, turned to use: how a store passes the CPU's registers
by, how a push and a pop end, and what is enough for an instruction to leave a state. -/

namespace Sys2Proof.Machine

variable (s : State) (a : Word) (v : Byte)

/-- Rules R223, R269-R272: a byte in page 0xFF00, as a sum. -/
theorem highPage_eq (n : Byte) : highPage n = 0xFF00 + n.zeroExtend 16 := by
  unfold highPage wordOf
  apply BitVec.eq_of_toNat_eq
  have := n.isLt
  rw [BitVec.toNat_append, Nat.shiftLeft_eq, Nat.mul_comm, ← Nat.two_pow_add_eq_or_of_lt this]
  simp
  omega

/-- A store looks at no CPU register and no cost, and changes none. -/
theorem State.storeByte_withCpu (c : Cpu) :
    (s.withCpu c).storeByte a v = (s.storeByte a v).withCpu c := by
  unfold State.storeByte
  have ht : (s.withCpu c).target a = s.target a := rfl
  rw [ht]
  cases s.target a with
  | vram o =>
    have hb : (s.withCpu c).vramBlocked = s.vramBlocked := rfl
    simp only [hb]
    split <;> rfl
  | oam o =>
    have hb : (s.withCpu c).oamBlocked = s.oamBlocked := rfl
    simp only [hb]
    split <;> rfl
  | io r => cases r <;> rfl
  | _ => rfl

theorem State.storeByte_addCost (k : Nat) :
    (s.addCost k).storeByte a v = (s.storeByte a v).addCost k := by
  unfold State.storeByte
  have ht : (s.addCost k).target a = s.target a := rfl
  rw [ht]
  cases s.target a with
  | vram o =>
    have hb : (s.addCost k).vramBlocked = s.vramBlocked := rfl
    simp only [hb]
    split <;> rfl
  | oam o =>
    have hb : (s.addCost k).oamBlocked = s.oamBlocked := rfl
    simp only [hb]
    split <;> rfl
  | io r => cases r <;> rfl
  | _ => rfl

theorem State.storeByte_startInstr (len cost : Nat) :
    (s.startInstr len cost).storeByte a v = (s.storeByte a v).startInstr len cost := by
  simp only [State.startInstr, State.storeByte_addCost, State.storeByte_withCpu, State.storeByte_cpu]

theorem State.storeByte_setSp (w : Word) :
    (s.setSp w).storeByte a v = (s.storeByte a v).setSp w := by
  simp only [State.setSp, State.storeByte_withCpu, State.storeByte_cpu]

/-! ## Registers after the updates, in the state's own words -/

@[simp] theorem State.setFlags_reg8 (f : Flags) (r : Reg8) : (s.setFlags f).reg8 r = s.reg8 r := by
  cases r <;> rfl
@[simp] theorem State.setSp_reg8 (w : Word) (r : Reg8) : (s.setSp w).reg8 r = s.reg8 r := by
  cases r <;> rfl
@[simp] theorem State.setPc_reg8 (w : Word) (r : Reg8) : (s.setPc w).reg8 r = s.reg8 r := by
  cases r <;> rfl
@[simp] theorem State.addCost_reg8 (k : Nat) (r : Reg8) : (s.addCost k).reg8 r = s.reg8 r := rfl
@[simp] theorem State.storeByte_reg8 (r : Reg8) : (s.storeByte a v).reg8 r = s.reg8 r := by
  simp [State.reg8]

theorem State.reg8_setReg8 (r q : Reg8) : (s.setReg8 r v).reg8 q = if q = r then v else s.reg8 q := by
  cases r <;> cases q <;> rfl

@[simp] theorem State.setReg8_flags (r : Reg8) : (s.setReg8 r v).cpu.flags = s.cpu.flags := by cases r <;> rfl

theorem State.reg8_setAccumulator (x : Flagged) (r : Reg8) :
    (s.setAccumulator x).reg8 r = if r = .a then x.1 else s.reg8 r := by
  cases r <;> rfl

@[simp] theorem State.setAccumulator_flags (x : Flagged) : (s.setAccumulator x).cpu.flags = x.2 := rfl

theorem State.reg8_updateReg (r q : Reg8) (f : Byte → Flags → Flagged) :
    (updateReg r f s).reg8 q = if q = r then (f (s.reg8 r) s.cpu.flags).1 else s.reg8 q := by
  cases r <;> cases q <;> rfl

theorem State.reg8_of_cpu {s u : State} (h : u.cpu = s.cpu) (r : Reg8) : u.reg8 r = s.reg8 r := by
  unfold State.reg8
  rw [h]

/-- A read is handed on from the state the instruction's start leaves. -/
theorem ReadsAs.startInstr {s u : State} {a : Word} {v : Byte} (h : ReadsAs s a v u) (len cost : Nat) :
    ReadsAs (s.startInstr len cost) a v (u.startInstr len cost) := by
  rcases h with ⟨h1, rfl⟩ | ⟨h1, rfl, rfl⟩
  · exact .inl ⟨h1, rfl⟩
  · exact .inr ⟨h1, rfl, rfl⟩

theorem ReadsAs.withCpu {s u : State} {a : Word} {v : Byte} (h : ReadsAs s a v u) (c : Cpu) :
    ReadsAs (s.withCpu c) a v (u.withCpu c) := by
  rcases h with ⟨h1, rfl⟩ | ⟨h1, rfl, rfl⟩
  · exact .inl ⟨h1, rfl⟩
  · exact .inr ⟨h1, rfl, rfl⟩

/-- A read leaves the CPU and the cost as they were. -/
theorem ReadsAs.cpu {s u : State} {a : Word} {v : Byte} (h : ReadsAs s a v u) : u.cpu = s.cpu := by
  rcases h with ⟨h1, rfl⟩ | ⟨h1, rfl, rfl⟩ <;> rfl

theorem ReadsAs.stepCost {s u : State} {a : Word} {v : Byte} (h : ReadsAs s a v u) :
    u.stepCost = s.stepCost := by
  rcases h with ⟨h1, rfl⟩ | ⟨h1, rfl, rfl⟩ <;> rfl

/-- How an unrefused push ends (R294). -/
theorem Pushes.pushWord {s u : State} {v : Word} (h : Pushes s v u) (c : Cpu) (hc : c.sp = s.cpu.sp)
    (k : Nat) :
    pushWord v ((s.withCpu c).addCost k) = .next ((u.withCpu { c with sp := c.sp - 2 }).addCost k) := by
  obtain ⟨h1, h2, rfl⟩ := h
  have e : c.sp - 1 - 1 = s.cpu.sp - 2 := by rw [hc]; bv_omega
  have e' : c.sp - 1 = s.cpu.sp - 1 := by rw [hc]
  have w1 : writeByte (c.sp - 1) (hiByte v) (((s.withCpu c).addCost k).setSp (c.sp - 1)) =
      .next (((s.storeByte (s.cpu.sp - 1) (hiByte v)).withCpu { c with sp := c.sp - 1 }).addCost k) := by
    rw [writeByte_of_none (by rw [e']; exact h1)]
    rw [State.storeByte_setSp, State.storeByte_addCost, State.storeByte_withCpu, e']
    rfl
  have w2 : writeByte (c.sp - 1 - 1) (loByte v)
      ((((s.storeByte (s.cpu.sp - 1) (hiByte v)).withCpu { c with sp := c.sp - 1 }).addCost k).setSp
        (c.sp - 1 - 1)) =
      .next ((((s.storeByte (s.cpu.sp - 1) (hiByte v)).storeByte (s.cpu.sp - 2)
        (loByte v)).withCpu { c with sp := c.sp - 2 }).addCost k) := by
    rw [writeByte_of_none (by rw [e]; exact h2)]
    rw [State.storeByte_setSp, State.storeByte_addCost, State.storeByte_withCpu, e]
    have e2 : c.sp - 2 = s.cpu.sp - 2 := by rw [hc]
    rw [e2]
    rfl
  show chain (writeByte (c.sp - 1) (hiByte v) (((s.withCpu c).addCost k).setSp (c.sp - 1))) _ = _
  rw [w1, chain_of_next]
  exact w2

/-- How a refused push ends (R515). -/
theorem PushRefused.pushWord {s : State} {v : Word} {q : Refusal} (h : PushRefused s v q) (c : Cpu)
    (hc : c.sp = s.cpu.sp) (k : Nat) : pushWord v ((s.withCpu c).addCost k) = .refused q := by
  have e : c.sp - 1 - 1 = s.cpu.sp - 2 := by rw [hc]; bv_omega
  have e' : c.sp - 1 = s.cpu.sp - 1 := by rw [hc]
  apply chain_refused.2
  rcases h with h | ⟨h1, h2⟩
  · exact .inl (writeByte_refused.2 (by rw [← e'] at h; exact h))
  · refine .inr ⟨(((s.storeByte (s.cpu.sp - 1) (hiByte v)).withCpu
      { c with sp := c.sp - 1 }).addCost k), ?_, ?_⟩
    · show writeByte (c.sp - 1) (hiByte v) (((s.withCpu c).addCost k).setSp (c.sp - 1)) = _
      rw [writeByte_of_none (by rw [e']; exact h1)]
      rw [State.storeByte_setSp, State.storeByte_addCost, State.storeByte_withCpu, e']
      rfl
    · apply writeByte_refused.2
      rw [← e] at h2
      exact h2

/-- How a pop whose reads are not refused ends (R295). -/
theorem ReadsWord.popWord {s u : State} {v : Word} (h : ReadsWord s s.cpu.sp v u) (c : Cpu)
    (hc : c.sp = s.cpu.sp) (n : Nat) (k : Word → State → Result) :
    popWord ((s.withCpu c).addCost n) k =
      k v ((u.withCpu { c with sp := c.sp + 2 }).addCost n) := by
  obtain ⟨m, h1, h2⟩ := h
  have r1 : ReadsAs ((s.withCpu c).addCost n) c.sp (loByte v) ((m.withCpu c).addCost n) := by
    rw [hc]
    rcases h1 with ⟨g, rfl⟩ | ⟨g, e, rfl⟩
    · exact .inl ⟨g, rfl⟩
    · exact .inr ⟨g, e, rfl⟩
  have r2 : ReadsAs (((m.withCpu c).addCost n).setSp (c.sp + 1)) (c.sp + 1) (hiByte v)
      (((u.withCpu c).addCost n).setSp (c.sp + 1)) := by
    rw [hc]
    rcases h2 with ⟨g, rfl⟩ | ⟨g, e, rfl⟩
    · exact .inl ⟨g, rfl⟩
    · exact .inr ⟨g, e, rfl⟩
  show withRead c.sp ((s.withCpu c).addCost n) _ = _
  rw [withRead_of_readsAs _ r1]
  show withRead (c.sp + 1) (((m.withCpu c).addCost n).setSp (c.sp + 1)) _ = _
  rw [withRead_of_readsAs _ r2]
  have e2 : c.sp + 1 + 1 = c.sp + 2 := by bv_omega
  rw [wordOf_hi_lo]
  show k v (((u.withCpu { c with sp := c.sp + 1 + 1 }).addCost n)) = _
  rw [e2]

/-- A push leaves the CPU and the cost to the instruction. -/
theorem Pushes.cpu {s u : State} {v : Word} (h : Pushes s v u) : u.cpu = s.cpu := by
  obtain ⟨-, -, rfl⟩ := h
  simp

theorem Pushes.stepCost {s u : State} {v : Word} (h : Pushes s v u) : u.stepCost = s.stepCost := by
  obtain ⟨-, -, rfl⟩ := h
  simp

theorem ReadsWord.cpu {s u : State} {a v : Word} (h : ReadsWord s a v u) : u.cpu = s.cpu := by
  obtain ⟨m, h1, h2⟩ := h
  rw [h2.cpu, h1.cpu]

theorem ReadsWord.stepCost {s u : State} {a v : Word} (h : ReadsWord s a v u) :
    u.stepCost = s.stepCost := by
  obtain ⟨m, h1, h2⟩ := h
  rw [h2.stepCost, h1.stepCost]

/-- A push, a refused push and a pop after an instruction's start. -/
theorem Pushes.pushStarted {s u : State} {v : Word} (h : Pushes s v u) (len cost : Nat) :
    Machine.pushWord v (s.startInstr len cost) =
      .next ((u.startInstr len cost).setSp (s.cpu.sp - 2)) := by
  have e := h.pushWord (s.startInstr len cost).cpu rfl cost
  have hu := h.cpu
  have eu : (u.startInstr len cost) = (u.withCpu (s.startInstr len cost).cpu).addCost cost := by
    simp only [State.startInstr, hu]
    rfl
  rw [eu]
  exact e

theorem PushRefused.pushStarted {s : State} {v : Word} {q : Refusal} (h : PushRefused s v q)
    (len cost : Nat) : Machine.pushWord v (s.startInstr len cost) = .refused q :=
  h.pushWord (s.startInstr len cost).cpu rfl cost

theorem ReadsWord.popStarted {s u : State} {v : Word} (h : ReadsWord s s.cpu.sp v u) (len cost : Nat)
    (k : Word → State → Result) :
    Machine.popWord (s.startInstr len cost) k =
      k v ((u.startInstr len cost).setSp (s.cpu.sp + 2)) := by
  have e := h.popWord (s.startInstr len cost).cpu rfl cost k
  have eu : (u.startInstr len cost) = (u.withCpu (s.startInstr len cost).cpu).addCost cost := by
    simp only [State.startInstr, h.cpu]
    rfl
  rw [eu]
  exact e

end Sys2Proof.Machine
end

