-- ==== Sys2Proof/Laws/PerInstr.lean ====
section
/-! SUPPORT. What holds of every instruction as syntax, by constructor: its encoding is as long as the
format of its opcode byte says (R220), one to three bytes. -/

namespace Sys2Proof.Laws.Encoding

/-- Rule R220: an encoding starts with an opcode byte and has the length of that byte's format. -/
def Statement (i : Instr) : Prop :=
  (encode i).length = (opcodeEntry ((encode i).headD 0)).length ∧ 1 ≤ (encode i).length ∧
    (encode i).length ≤ 3

/-- The statement, from an encoding's opcode byte and its length. -/
theorem of {i : Instr} {rest : List Byte} (op : Byte) (k : Nat) (h : encode i = op :: rest)
    (hl : (opcodeEntry op).length = k) (hr : rest.length + 1 = k) (hk : Nat.ble k 3 = true) :
    Statement i := by
  unfold Statement
  rw [h]
  exact ⟨hr.trans hl.symm, Nat.succ_le_succ (Nat.zero_le _), hr.trans_le (Nat.le_of_ble_eq_true hk)⟩

theorem nop : Statement (.nop) := of 0x00 1 rfl rfl rfl rfl
theorem ldBcNn (nn : Word) : Statement (.ldBcNn nn) := of 0x01 3 rfl rfl rfl rfl
theorem ldMbcA : Statement (.ldMbcA) := of 0x02 1 rfl rfl rfl rfl
theorem incBc : Statement (.incBc) := of 0x03 1 rfl rfl rfl rfl
theorem incB : Statement (.incB) := of 0x04 1 rfl rfl rfl rfl
theorem decB : Statement (.decB) := of 0x05 1 rfl rfl rfl rfl
theorem ldBN (n : Byte) : Statement (.ldBN n) := of 0x06 2 rfl rfl rfl rfl
theorem rlca : Statement (.rlca) := of 0x07 1 rfl rfl rfl rfl
theorem ldMnnSp (nn : Word) : Statement (.ldMnnSp nn) := of 0x08 3 rfl rfl rfl rfl
theorem addHlBc : Statement (.addHlBc) := of 0x09 1 rfl rfl rfl rfl
theorem ldAMbc : Statement (.ldAMbc) := of 0x0A 1 rfl rfl rfl rfl
theorem decBc : Statement (.decBc) := of 0x0B 1 rfl rfl rfl rfl
theorem incC : Statement (.incC) := of 0x0C 1 rfl rfl rfl rfl
theorem decC : Statement (.decC) := of 0x0D 1 rfl rfl rfl rfl
theorem ldCN (n : Byte) : Statement (.ldCN n) := of 0x0E 2 rfl rfl rfl rfl
theorem rrca : Statement (.rrca) := of 0x0F 1 rfl rfl rfl rfl
theorem stop (n : Byte) : Statement (.stop n) := of 0x10 2 rfl rfl rfl rfl
theorem ldDeNn (nn : Word) : Statement (.ldDeNn nn) := of 0x11 3 rfl rfl rfl rfl
theorem ldMdeA : Statement (.ldMdeA) := of 0x12 1 rfl rfl rfl rfl
theorem incDe : Statement (.incDe) := of 0x13 1 rfl rfl rfl rfl
theorem incD : Statement (.incD) := of 0x14 1 rfl rfl rfl rfl
theorem decD : Statement (.decD) := of 0x15 1 rfl rfl rfl rfl
theorem ldDN (n : Byte) : Statement (.ldDN n) := of 0x16 2 rfl rfl rfl rfl
theorem rla : Statement (.rla) := of 0x17 1 rfl rfl rfl rfl
theorem jrE (e : Int) : Statement (.jrE e) := of 0x18 2 rfl rfl rfl rfl
theorem addHlDe : Statement (.addHlDe) := of 0x19 1 rfl rfl rfl rfl
theorem ldAMde : Statement (.ldAMde) := of 0x1A 1 rfl rfl rfl rfl
theorem decDe : Statement (.decDe) := of 0x1B 1 rfl rfl rfl rfl
theorem incE : Statement (.incE) := of 0x1C 1 rfl rfl rfl rfl
theorem decE : Statement (.decE) := of 0x1D 1 rfl rfl rfl rfl
theorem ldEN (n : Byte) : Statement (.ldEN n) := of 0x1E 2 rfl rfl rfl rfl
theorem rra : Statement (.rra) := of 0x1F 1 rfl rfl rfl rfl
theorem jrNzE (e : Int) : Statement (.jrNzE e) := of 0x20 2 rfl rfl rfl rfl
theorem ldHlNn (nn : Word) : Statement (.ldHlNn nn) := of 0x21 3 rfl rfl rfl rfl
theorem ldMhliA : Statement (.ldMhliA) := of 0x22 1 rfl rfl rfl rfl
theorem incHl : Statement (.incHl) := of 0x23 1 rfl rfl rfl rfl
theorem incH : Statement (.incH) := of 0x24 1 rfl rfl rfl rfl
theorem decH : Statement (.decH) := of 0x25 1 rfl rfl rfl rfl
theorem ldHN (n : Byte) : Statement (.ldHN n) := of 0x26 2 rfl rfl rfl rfl
theorem daa : Statement (.daa) := of 0x27 1 rfl rfl rfl rfl
theorem jrZE (e : Int) : Statement (.jrZE e) := of 0x28 2 rfl rfl rfl rfl
theorem addHlHl : Statement (.addHlHl) := of 0x29 1 rfl rfl rfl rfl
theorem ldAMhli : Statement (.ldAMhli) := of 0x2A 1 rfl rfl rfl rfl
theorem decHl : Statement (.decHl) := of 0x2B 1 rfl rfl rfl rfl
theorem incL : Statement (.incL) := of 0x2C 1 rfl rfl rfl rfl
theorem decL : Statement (.decL) := of 0x2D 1 rfl rfl rfl rfl
theorem ldLN (n : Byte) : Statement (.ldLN n) := of 0x2E 2 rfl rfl rfl rfl
theorem cpl : Statement (.cpl) := of 0x2F 1 rfl rfl rfl rfl
theorem jrNcE (e : Int) : Statement (.jrNcE e) := of 0x30 2 rfl rfl rfl rfl
theorem ldSpNn (nn : Word) : Statement (.ldSpNn nn) := of 0x31 3 rfl rfl rfl rfl
theorem ldMhldA : Statement (.ldMhldA) := of 0x32 1 rfl rfl rfl rfl
theorem incSp : Statement (.incSp) := of 0x33 1 rfl rfl rfl rfl
theorem incMhl : Statement (.incMhl) := of 0x34 1 rfl rfl rfl rfl
theorem decMhl : Statement (.decMhl) := of 0x35 1 rfl rfl rfl rfl
theorem ldMhlN (n : Byte) : Statement (.ldMhlN n) := of 0x36 2 rfl rfl rfl rfl
theorem scf : Statement (.scf) := of 0x37 1 rfl rfl rfl rfl
theorem jrCE (e : Int) : Statement (.jrCE e) := of 0x38 2 rfl rfl rfl rfl
theorem addHlSp : Statement (.addHlSp) := of 0x39 1 rfl rfl rfl rfl
theorem ldAMhld : Statement (.ldAMhld) := of 0x3A 1 rfl rfl rfl rfl
theorem decSp : Statement (.decSp) := of 0x3B 1 rfl rfl rfl rfl
theorem incA : Statement (.incA) := of 0x3C 1 rfl rfl rfl rfl
theorem decA : Statement (.decA) := of 0x3D 1 rfl rfl rfl rfl
theorem ldAN (n : Byte) : Statement (.ldAN n) := of 0x3E 2 rfl rfl rfl rfl
theorem ccf : Statement (.ccf) := of 0x3F 1 rfl rfl rfl rfl
theorem ldBB : Statement (.ldBB) := of 0x40 1 rfl rfl rfl rfl
theorem ldBC : Statement (.ldBC) := of 0x41 1 rfl rfl rfl rfl
theorem ldBD : Statement (.ldBD) := of 0x42 1 rfl rfl rfl rfl
theorem ldBE : Statement (.ldBE) := of 0x43 1 rfl rfl rfl rfl
theorem ldBH : Statement (.ldBH) := of 0x44 1 rfl rfl rfl rfl
theorem ldBL : Statement (.ldBL) := of 0x45 1 rfl rfl rfl rfl
theorem ldBMhl : Statement (.ldBMhl) := of 0x46 1 rfl rfl rfl rfl
theorem ldBA : Statement (.ldBA) := of 0x47 1 rfl rfl rfl rfl
theorem ldCB : Statement (.ldCB) := of 0x48 1 rfl rfl rfl rfl
theorem ldCC : Statement (.ldCC) := of 0x49 1 rfl rfl rfl rfl
theorem ldCD : Statement (.ldCD) := of 0x4A 1 rfl rfl rfl rfl
theorem ldCE : Statement (.ldCE) := of 0x4B 1 rfl rfl rfl rfl
theorem ldCH : Statement (.ldCH) := of 0x4C 1 rfl rfl rfl rfl
theorem ldCL : Statement (.ldCL) := of 0x4D 1 rfl rfl rfl rfl
theorem ldCMhl : Statement (.ldCMhl) := of 0x4E 1 rfl rfl rfl rfl
theorem ldCA : Statement (.ldCA) := of 0x4F 1 rfl rfl rfl rfl
theorem ldDB : Statement (.ldDB) := of 0x50 1 rfl rfl rfl rfl
theorem ldDC : Statement (.ldDC) := of 0x51 1 rfl rfl rfl rfl
theorem ldDD : Statement (.ldDD) := of 0x52 1 rfl rfl rfl rfl
theorem ldDE : Statement (.ldDE) := of 0x53 1 rfl rfl rfl rfl
theorem ldDH : Statement (.ldDH) := of 0x54 1 rfl rfl rfl rfl
theorem ldDL : Statement (.ldDL) := of 0x55 1 rfl rfl rfl rfl
theorem ldDMhl : Statement (.ldDMhl) := of 0x56 1 rfl rfl rfl rfl
theorem ldDA : Statement (.ldDA) := of 0x57 1 rfl rfl rfl rfl
theorem ldEB : Statement (.ldEB) := of 0x58 1 rfl rfl rfl rfl
theorem ldEC : Statement (.ldEC) := of 0x59 1 rfl rfl rfl rfl
theorem ldED : Statement (.ldED) := of 0x5A 1 rfl rfl rfl rfl
theorem ldEE : Statement (.ldEE) := of 0x5B 1 rfl rfl rfl rfl
theorem ldEH : Statement (.ldEH) := of 0x5C 1 rfl rfl rfl rfl
theorem ldEL : Statement (.ldEL) := of 0x5D 1 rfl rfl rfl rfl
theorem ldEMhl : Statement (.ldEMhl) := of 0x5E 1 rfl rfl rfl rfl
theorem ldEA : Statement (.ldEA) := of 0x5F 1 rfl rfl rfl rfl
theorem ldHB : Statement (.ldHB) := of 0x60 1 rfl rfl rfl rfl
theorem ldHC : Statement (.ldHC) := of 0x61 1 rfl rfl rfl rfl
theorem ldHD : Statement (.ldHD) := of 0x62 1 rfl rfl rfl rfl
theorem ldHE : Statement (.ldHE) := of 0x63 1 rfl rfl rfl rfl
theorem ldHH : Statement (.ldHH) := of 0x64 1 rfl rfl rfl rfl
theorem ldHL : Statement (.ldHL) := of 0x65 1 rfl rfl rfl rfl
theorem ldHMhl : Statement (.ldHMhl) := of 0x66 1 rfl rfl rfl rfl
theorem ldHA : Statement (.ldHA) := of 0x67 1 rfl rfl rfl rfl
theorem ldLB : Statement (.ldLB) := of 0x68 1 rfl rfl rfl rfl
theorem ldLC : Statement (.ldLC) := of 0x69 1 rfl rfl rfl rfl
theorem ldLD : Statement (.ldLD) := of 0x6A 1 rfl rfl rfl rfl
theorem ldLE : Statement (.ldLE) := of 0x6B 1 rfl rfl rfl rfl
theorem ldLH : Statement (.ldLH) := of 0x6C 1 rfl rfl rfl rfl
theorem ldLL : Statement (.ldLL) := of 0x6D 1 rfl rfl rfl rfl
theorem ldLMhl : Statement (.ldLMhl) := of 0x6E 1 rfl rfl rfl rfl
theorem ldLA : Statement (.ldLA) := of 0x6F 1 rfl rfl rfl rfl
theorem ldMhlB : Statement (.ldMhlB) := of 0x70 1 rfl rfl rfl rfl
theorem ldMhlC : Statement (.ldMhlC) := of 0x71 1 rfl rfl rfl rfl
theorem ldMhlD : Statement (.ldMhlD) := of 0x72 1 rfl rfl rfl rfl
theorem ldMhlE : Statement (.ldMhlE) := of 0x73 1 rfl rfl rfl rfl
theorem ldMhlH : Statement (.ldMhlH) := of 0x74 1 rfl rfl rfl rfl
theorem ldMhlL : Statement (.ldMhlL) := of 0x75 1 rfl rfl rfl rfl
theorem halt : Statement (.halt) := of 0x76 1 rfl rfl rfl rfl
theorem ldMhlA : Statement (.ldMhlA) := of 0x77 1 rfl rfl rfl rfl
theorem ldAB : Statement (.ldAB) := of 0x78 1 rfl rfl rfl rfl
theorem ldAC : Statement (.ldAC) := of 0x79 1 rfl rfl rfl rfl
theorem ldAD : Statement (.ldAD) := of 0x7A 1 rfl rfl rfl rfl
theorem ldAE : Statement (.ldAE) := of 0x7B 1 rfl rfl rfl rfl
theorem ldAH : Statement (.ldAH) := of 0x7C 1 rfl rfl rfl rfl
theorem ldAL : Statement (.ldAL) := of 0x7D 1 rfl rfl rfl rfl
theorem ldAMhl : Statement (.ldAMhl) := of 0x7E 1 rfl rfl rfl rfl
theorem ldAA : Statement (.ldAA) := of 0x7F 1 rfl rfl rfl rfl
theorem addAB : Statement (.addAB) := of 0x80 1 rfl rfl rfl rfl
theorem addAC : Statement (.addAC) := of 0x81 1 rfl rfl rfl rfl
theorem addAD : Statement (.addAD) := of 0x82 1 rfl rfl rfl rfl
theorem addAE : Statement (.addAE) := of 0x83 1 rfl rfl rfl rfl
theorem addAH : Statement (.addAH) := of 0x84 1 rfl rfl rfl rfl
theorem addAL : Statement (.addAL) := of 0x85 1 rfl rfl rfl rfl
theorem addAMhl : Statement (.addAMhl) := of 0x86 1 rfl rfl rfl rfl
theorem addAA : Statement (.addAA) := of 0x87 1 rfl rfl rfl rfl
theorem adcAB : Statement (.adcAB) := of 0x88 1 rfl rfl rfl rfl
theorem adcAC : Statement (.adcAC) := of 0x89 1 rfl rfl rfl rfl
theorem adcAD : Statement (.adcAD) := of 0x8A 1 rfl rfl rfl rfl
theorem adcAE : Statement (.adcAE) := of 0x8B 1 rfl rfl rfl rfl
theorem adcAH : Statement (.adcAH) := of 0x8C 1 rfl rfl rfl rfl
theorem adcAL : Statement (.adcAL) := of 0x8D 1 rfl rfl rfl rfl
theorem adcAMhl : Statement (.adcAMhl) := of 0x8E 1 rfl rfl rfl rfl
theorem adcAA : Statement (.adcAA) := of 0x8F 1 rfl rfl rfl rfl
theorem subB : Statement (.subB) := of 0x90 1 rfl rfl rfl rfl
theorem subC : Statement (.subC) := of 0x91 1 rfl rfl rfl rfl
theorem subD : Statement (.subD) := of 0x92 1 rfl rfl rfl rfl
theorem subE : Statement (.subE) := of 0x93 1 rfl rfl rfl rfl
theorem subH : Statement (.subH) := of 0x94 1 rfl rfl rfl rfl
theorem subL : Statement (.subL) := of 0x95 1 rfl rfl rfl rfl
theorem subMhl : Statement (.subMhl) := of 0x96 1 rfl rfl rfl rfl
theorem subA : Statement (.subA) := of 0x97 1 rfl rfl rfl rfl
theorem sbcAB : Statement (.sbcAB) := of 0x98 1 rfl rfl rfl rfl
theorem sbcAC : Statement (.sbcAC) := of 0x99 1 rfl rfl rfl rfl
theorem sbcAD : Statement (.sbcAD) := of 0x9A 1 rfl rfl rfl rfl
theorem sbcAE : Statement (.sbcAE) := of 0x9B 1 rfl rfl rfl rfl
theorem sbcAH : Statement (.sbcAH) := of 0x9C 1 rfl rfl rfl rfl
theorem sbcAL : Statement (.sbcAL) := of 0x9D 1 rfl rfl rfl rfl
theorem sbcAMhl : Statement (.sbcAMhl) := of 0x9E 1 rfl rfl rfl rfl
theorem sbcAA : Statement (.sbcAA) := of 0x9F 1 rfl rfl rfl rfl
theorem andB : Statement (.andB) := of 0xA0 1 rfl rfl rfl rfl
theorem andC : Statement (.andC) := of 0xA1 1 rfl rfl rfl rfl
theorem andD : Statement (.andD) := of 0xA2 1 rfl rfl rfl rfl
theorem andE : Statement (.andE) := of 0xA3 1 rfl rfl rfl rfl
theorem andH : Statement (.andH) := of 0xA4 1 rfl rfl rfl rfl
theorem andL : Statement (.andL) := of 0xA5 1 rfl rfl rfl rfl
theorem andMhl : Statement (.andMhl) := of 0xA6 1 rfl rfl rfl rfl
theorem andA : Statement (.andA) := of 0xA7 1 rfl rfl rfl rfl
theorem xorB : Statement (.xorB) := of 0xA8 1 rfl rfl rfl rfl
theorem xorC : Statement (.xorC) := of 0xA9 1 rfl rfl rfl rfl
theorem xorD : Statement (.xorD) := of 0xAA 1 rfl rfl rfl rfl
theorem xorE : Statement (.xorE) := of 0xAB 1 rfl rfl rfl rfl
theorem xorH : Statement (.xorH) := of 0xAC 1 rfl rfl rfl rfl
theorem xorL : Statement (.xorL) := of 0xAD 1 rfl rfl rfl rfl
theorem xorMhl : Statement (.xorMhl) := of 0xAE 1 rfl rfl rfl rfl
theorem xorA : Statement (.xorA) := of 0xAF 1 rfl rfl rfl rfl
theorem orB : Statement (.orB) := of 0xB0 1 rfl rfl rfl rfl
theorem orC : Statement (.orC) := of 0xB1 1 rfl rfl rfl rfl
theorem orD : Statement (.orD) := of 0xB2 1 rfl rfl rfl rfl
theorem orE : Statement (.orE) := of 0xB3 1 rfl rfl rfl rfl
theorem orH : Statement (.orH) := of 0xB4 1 rfl rfl rfl rfl
theorem orL : Statement (.orL) := of 0xB5 1 rfl rfl rfl rfl
theorem orMhl : Statement (.orMhl) := of 0xB6 1 rfl rfl rfl rfl
theorem orA : Statement (.orA) := of 0xB7 1 rfl rfl rfl rfl
theorem cpB : Statement (.cpB) := of 0xB8 1 rfl rfl rfl rfl
theorem cpC : Statement (.cpC) := of 0xB9 1 rfl rfl rfl rfl
theorem cpD : Statement (.cpD) := of 0xBA 1 rfl rfl rfl rfl
theorem cpE : Statement (.cpE) := of 0xBB 1 rfl rfl rfl rfl
theorem cpH : Statement (.cpH) := of 0xBC 1 rfl rfl rfl rfl
theorem cpL : Statement (.cpL) := of 0xBD 1 rfl rfl rfl rfl
theorem cpMhl : Statement (.cpMhl) := of 0xBE 1 rfl rfl rfl rfl
theorem cpA : Statement (.cpA) := of 0xBF 1 rfl rfl rfl rfl
theorem retNz : Statement (.retNz) := of 0xC0 1 rfl rfl rfl rfl
theorem popBc : Statement (.popBc) := of 0xC1 1 rfl rfl rfl rfl
theorem jpNzNn (nn : Word) : Statement (.jpNzNn nn) := of 0xC2 3 rfl rfl rfl rfl
theorem jpNn (nn : Word) : Statement (.jpNn nn) := of 0xC3 3 rfl rfl rfl rfl
theorem callNzNn (nn : Word) : Statement (.callNzNn nn) := of 0xC4 3 rfl rfl rfl rfl
theorem pushBc : Statement (.pushBc) := of 0xC5 1 rfl rfl rfl rfl
theorem addAN (n : Byte) : Statement (.addAN n) := of 0xC6 2 rfl rfl rfl rfl
theorem rst00 : Statement (.rst00) := of 0xC7 1 rfl rfl rfl rfl
theorem retZ : Statement (.retZ) := of 0xC8 1 rfl rfl rfl rfl
theorem ret : Statement (.ret) := of 0xC9 1 rfl rfl rfl rfl
theorem jpZNn (nn : Word) : Statement (.jpZNn nn) := of 0xCA 3 rfl rfl rfl rfl
theorem callZNn (nn : Word) : Statement (.callZNn nn) := of 0xCC 3 rfl rfl rfl rfl
theorem callNn (nn : Word) : Statement (.callNn nn) := of 0xCD 3 rfl rfl rfl rfl
theorem adcAN (n : Byte) : Statement (.adcAN n) := of 0xCE 2 rfl rfl rfl rfl
theorem rst08 : Statement (.rst08) := of 0xCF 1 rfl rfl rfl rfl
theorem retNc : Statement (.retNc) := of 0xD0 1 rfl rfl rfl rfl
theorem popDe : Statement (.popDe) := of 0xD1 1 rfl rfl rfl rfl
theorem jpNcNn (nn : Word) : Statement (.jpNcNn nn) := of 0xD2 3 rfl rfl rfl rfl
theorem invalidD3 : Statement (.invalidD3) := of 0xD3 1 rfl rfl rfl rfl
theorem callNcNn (nn : Word) : Statement (.callNcNn nn) := of 0xD4 3 rfl rfl rfl rfl
theorem pushDe : Statement (.pushDe) := of 0xD5 1 rfl rfl rfl rfl
theorem subN (n : Byte) : Statement (.subN n) := of 0xD6 2 rfl rfl rfl rfl
theorem rst10 : Statement (.rst10) := of 0xD7 1 rfl rfl rfl rfl
theorem retC : Statement (.retC) := of 0xD8 1 rfl rfl rfl rfl
theorem reti : Statement (.reti) := of 0xD9 1 rfl rfl rfl rfl
theorem jpCNn (nn : Word) : Statement (.jpCNn nn) := of 0xDA 3 rfl rfl rfl rfl
theorem invalidDB : Statement (.invalidDB) := of 0xDB 1 rfl rfl rfl rfl
theorem callCNn (nn : Word) : Statement (.callCNn nn) := of 0xDC 3 rfl rfl rfl rfl
theorem invalidDD : Statement (.invalidDD) := of 0xDD 1 rfl rfl rfl rfl
theorem sbcAN (n : Byte) : Statement (.sbcAN n) := of 0xDE 2 rfl rfl rfl rfl
theorem rst18 : Statement (.rst18) := of 0xDF 1 rfl rfl rfl rfl
theorem ldhMnA (n : Byte) : Statement (.ldhMnA n) := of 0xE0 2 rfl rfl rfl rfl
theorem popHl : Statement (.popHl) := of 0xE1 1 rfl rfl rfl rfl
theorem ldhMcA : Statement (.ldhMcA) := of 0xE2 1 rfl rfl rfl rfl
theorem invalidE3 : Statement (.invalidE3) := of 0xE3 1 rfl rfl rfl rfl
theorem invalidE4 : Statement (.invalidE4) := of 0xE4 1 rfl rfl rfl rfl
theorem pushHl : Statement (.pushHl) := of 0xE5 1 rfl rfl rfl rfl
theorem andN (n : Byte) : Statement (.andN n) := of 0xE6 2 rfl rfl rfl rfl
theorem rst20 : Statement (.rst20) := of 0xE7 1 rfl rfl rfl rfl
theorem addSpE (e : Int) : Statement (.addSpE e) := of 0xE8 2 rfl rfl rfl rfl
theorem jpHl : Statement (.jpHl) := of 0xE9 1 rfl rfl rfl rfl
theorem ldMnnA (nn : Word) : Statement (.ldMnnA nn) := of 0xEA 3 rfl rfl rfl rfl
theorem invalidEB : Statement (.invalidEB) := of 0xEB 1 rfl rfl rfl rfl
theorem invalidEC : Statement (.invalidEC) := of 0xEC 1 rfl rfl rfl rfl
theorem invalidED : Statement (.invalidED) := of 0xED 1 rfl rfl rfl rfl
theorem xorN (n : Byte) : Statement (.xorN n) := of 0xEE 2 rfl rfl rfl rfl
theorem rst28 : Statement (.rst28) := of 0xEF 1 rfl rfl rfl rfl
theorem ldhAMn (n : Byte) : Statement (.ldhAMn n) := of 0xF0 2 rfl rfl rfl rfl
theorem popAf : Statement (.popAf) := of 0xF1 1 rfl rfl rfl rfl
theorem ldhAMc : Statement (.ldhAMc) := of 0xF2 1 rfl rfl rfl rfl
theorem di : Statement (.di) := of 0xF3 1 rfl rfl rfl rfl
theorem invalidF4 : Statement (.invalidF4) := of 0xF4 1 rfl rfl rfl rfl
theorem pushAf : Statement (.pushAf) := of 0xF5 1 rfl rfl rfl rfl
theorem orN (n : Byte) : Statement (.orN n) := of 0xF6 2 rfl rfl rfl rfl
theorem rst30 : Statement (.rst30) := of 0xF7 1 rfl rfl rfl rfl
theorem ldHlSpE (e : Int) : Statement (.ldHlSpE e) := of 0xF8 2 rfl rfl rfl rfl
theorem ldSpHl : Statement (.ldSpHl) := of 0xF9 1 rfl rfl rfl rfl
theorem ldAMnn (nn : Word) : Statement (.ldAMnn nn) := of 0xFA 3 rfl rfl rfl rfl
theorem ei : Statement (.ei) := of 0xFB 1 rfl rfl rfl rfl
theorem invalidFC : Statement (.invalidFC) := of 0xFC 1 rfl rfl rfl rfl
theorem invalidFD : Statement (.invalidFD) := of 0xFD 1 rfl rfl rfl rfl
theorem cpN (n : Byte) : Statement (.cpN n) := of 0xFE 2 rfl rfl rfl rfl
theorem rst38 : Statement (.rst38) := of 0xFF 1 rfl rfl rfl rfl
theorem rlcB : Statement (.rlcB) := of 0xCB 2 rfl rfl rfl rfl
theorem rlcC : Statement (.rlcC) := of 0xCB 2 rfl rfl rfl rfl
theorem rlcD : Statement (.rlcD) := of 0xCB 2 rfl rfl rfl rfl
theorem rlcE : Statement (.rlcE) := of 0xCB 2 rfl rfl rfl rfl
theorem rlcH : Statement (.rlcH) := of 0xCB 2 rfl rfl rfl rfl
theorem rlcL : Statement (.rlcL) := of 0xCB 2 rfl rfl rfl rfl
theorem rlcMhl : Statement (.rlcMhl) := of 0xCB 2 rfl rfl rfl rfl
theorem rlcA : Statement (.rlcA) := of 0xCB 2 rfl rfl rfl rfl
theorem rrcB : Statement (.rrcB) := of 0xCB 2 rfl rfl rfl rfl
theorem rrcC : Statement (.rrcC) := of 0xCB 2 rfl rfl rfl rfl
theorem rrcD : Statement (.rrcD) := of 0xCB 2 rfl rfl rfl rfl
theorem rrcE : Statement (.rrcE) := of 0xCB 2 rfl rfl rfl rfl
theorem rrcH : Statement (.rrcH) := of 0xCB 2 rfl rfl rfl rfl
theorem rrcL : Statement (.rrcL) := of 0xCB 2 rfl rfl rfl rfl
theorem rrcMhl : Statement (.rrcMhl) := of 0xCB 2 rfl rfl rfl rfl
theorem rrcA : Statement (.rrcA) := of 0xCB 2 rfl rfl rfl rfl
theorem rlB : Statement (.rlB) := of 0xCB 2 rfl rfl rfl rfl
theorem rlC : Statement (.rlC) := of 0xCB 2 rfl rfl rfl rfl
theorem rlD : Statement (.rlD) := of 0xCB 2 rfl rfl rfl rfl
theorem rlE : Statement (.rlE) := of 0xCB 2 rfl rfl rfl rfl
theorem rlH : Statement (.rlH) := of 0xCB 2 rfl rfl rfl rfl
theorem rlL : Statement (.rlL) := of 0xCB 2 rfl rfl rfl rfl
theorem rlMhl : Statement (.rlMhl) := of 0xCB 2 rfl rfl rfl rfl
theorem rlA : Statement (.rlA) := of 0xCB 2 rfl rfl rfl rfl
theorem rrB : Statement (.rrB) := of 0xCB 2 rfl rfl rfl rfl
theorem rrC : Statement (.rrC) := of 0xCB 2 rfl rfl rfl rfl
theorem rrD : Statement (.rrD) := of 0xCB 2 rfl rfl rfl rfl
theorem rrE : Statement (.rrE) := of 0xCB 2 rfl rfl rfl rfl
theorem rrH : Statement (.rrH) := of 0xCB 2 rfl rfl rfl rfl
theorem rrL : Statement (.rrL) := of 0xCB 2 rfl rfl rfl rfl
theorem rrMhl : Statement (.rrMhl) := of 0xCB 2 rfl rfl rfl rfl
theorem rrA : Statement (.rrA) := of 0xCB 2 rfl rfl rfl rfl
theorem slaB : Statement (.slaB) := of 0xCB 2 rfl rfl rfl rfl
theorem slaC : Statement (.slaC) := of 0xCB 2 rfl rfl rfl rfl
theorem slaD : Statement (.slaD) := of 0xCB 2 rfl rfl rfl rfl
theorem slaE : Statement (.slaE) := of 0xCB 2 rfl rfl rfl rfl
theorem slaH : Statement (.slaH) := of 0xCB 2 rfl rfl rfl rfl
theorem slaL : Statement (.slaL) := of 0xCB 2 rfl rfl rfl rfl
theorem slaMhl : Statement (.slaMhl) := of 0xCB 2 rfl rfl rfl rfl
theorem slaA : Statement (.slaA) := of 0xCB 2 rfl rfl rfl rfl
theorem sraB : Statement (.sraB) := of 0xCB 2 rfl rfl rfl rfl
theorem sraC : Statement (.sraC) := of 0xCB 2 rfl rfl rfl rfl
theorem sraD : Statement (.sraD) := of 0xCB 2 rfl rfl rfl rfl
theorem sraE : Statement (.sraE) := of 0xCB 2 rfl rfl rfl rfl
theorem sraH : Statement (.sraH) := of 0xCB 2 rfl rfl rfl rfl
theorem sraL : Statement (.sraL) := of 0xCB 2 rfl rfl rfl rfl
theorem sraMhl : Statement (.sraMhl) := of 0xCB 2 rfl rfl rfl rfl
theorem sraA : Statement (.sraA) := of 0xCB 2 rfl rfl rfl rfl
theorem swapB : Statement (.swapB) := of 0xCB 2 rfl rfl rfl rfl
theorem swapC : Statement (.swapC) := of 0xCB 2 rfl rfl rfl rfl
theorem swapD : Statement (.swapD) := of 0xCB 2 rfl rfl rfl rfl
theorem swapE : Statement (.swapE) := of 0xCB 2 rfl rfl rfl rfl
theorem swapH : Statement (.swapH) := of 0xCB 2 rfl rfl rfl rfl
theorem swapL : Statement (.swapL) := of 0xCB 2 rfl rfl rfl rfl
theorem swapMhl : Statement (.swapMhl) := of 0xCB 2 rfl rfl rfl rfl
theorem swapA : Statement (.swapA) := of 0xCB 2 rfl rfl rfl rfl
theorem srlB : Statement (.srlB) := of 0xCB 2 rfl rfl rfl rfl
theorem srlC : Statement (.srlC) := of 0xCB 2 rfl rfl rfl rfl
theorem srlD : Statement (.srlD) := of 0xCB 2 rfl rfl rfl rfl
theorem srlE : Statement (.srlE) := of 0xCB 2 rfl rfl rfl rfl
theorem srlH : Statement (.srlH) := of 0xCB 2 rfl rfl rfl rfl
theorem srlL : Statement (.srlL) := of 0xCB 2 rfl rfl rfl rfl
theorem srlMhl : Statement (.srlMhl) := of 0xCB 2 rfl rfl rfl rfl
theorem srlA : Statement (.srlA) := of 0xCB 2 rfl rfl rfl rfl
theorem bit0B : Statement (.bit0B) := of 0xCB 2 rfl rfl rfl rfl
theorem bit0C : Statement (.bit0C) := of 0xCB 2 rfl rfl rfl rfl
theorem bit0D : Statement (.bit0D) := of 0xCB 2 rfl rfl rfl rfl
theorem bit0E : Statement (.bit0E) := of 0xCB 2 rfl rfl rfl rfl
theorem bit0H : Statement (.bit0H) := of 0xCB 2 rfl rfl rfl rfl
theorem bit0L : Statement (.bit0L) := of 0xCB 2 rfl rfl rfl rfl
theorem bit0Mhl : Statement (.bit0Mhl) := of 0xCB 2 rfl rfl rfl rfl
theorem bit0A : Statement (.bit0A) := of 0xCB 2 rfl rfl rfl rfl
theorem bit1B : Statement (.bit1B) := of 0xCB 2 rfl rfl rfl rfl
theorem bit1C : Statement (.bit1C) := of 0xCB 2 rfl rfl rfl rfl
theorem bit1D : Statement (.bit1D) := of 0xCB 2 rfl rfl rfl rfl
theorem bit1E : Statement (.bit1E) := of 0xCB 2 rfl rfl rfl rfl
theorem bit1H : Statement (.bit1H) := of 0xCB 2 rfl rfl rfl rfl
theorem bit1L : Statement (.bit1L) := of 0xCB 2 rfl rfl rfl rfl
theorem bit1Mhl : Statement (.bit1Mhl) := of 0xCB 2 rfl rfl rfl rfl
theorem bit1A : Statement (.bit1A) := of 0xCB 2 rfl rfl rfl rfl
theorem bit2B : Statement (.bit2B) := of 0xCB 2 rfl rfl rfl rfl
theorem bit2C : Statement (.bit2C) := of 0xCB 2 rfl rfl rfl rfl
theorem bit2D : Statement (.bit2D) := of 0xCB 2 rfl rfl rfl rfl
theorem bit2E : Statement (.bit2E) := of 0xCB 2 rfl rfl rfl rfl
theorem bit2H : Statement (.bit2H) := of 0xCB 2 rfl rfl rfl rfl
theorem bit2L : Statement (.bit2L) := of 0xCB 2 rfl rfl rfl rfl
theorem bit2Mhl : Statement (.bit2Mhl) := of 0xCB 2 rfl rfl rfl rfl
theorem bit2A : Statement (.bit2A) := of 0xCB 2 rfl rfl rfl rfl
theorem bit3B : Statement (.bit3B) := of 0xCB 2 rfl rfl rfl rfl
theorem bit3C : Statement (.bit3C) := of 0xCB 2 rfl rfl rfl rfl
theorem bit3D : Statement (.bit3D) := of 0xCB 2 rfl rfl rfl rfl
theorem bit3E : Statement (.bit3E) := of 0xCB 2 rfl rfl rfl rfl
theorem bit3H : Statement (.bit3H) := of 0xCB 2 rfl rfl rfl rfl
theorem bit3L : Statement (.bit3L) := of 0xCB 2 rfl rfl rfl rfl
theorem bit3Mhl : Statement (.bit3Mhl) := of 0xCB 2 rfl rfl rfl rfl
theorem bit3A : Statement (.bit3A) := of 0xCB 2 rfl rfl rfl rfl
theorem bit4B : Statement (.bit4B) := of 0xCB 2 rfl rfl rfl rfl
theorem bit4C : Statement (.bit4C) := of 0xCB 2 rfl rfl rfl rfl
theorem bit4D : Statement (.bit4D) := of 0xCB 2 rfl rfl rfl rfl
theorem bit4E : Statement (.bit4E) := of 0xCB 2 rfl rfl rfl rfl
theorem bit4H : Statement (.bit4H) := of 0xCB 2 rfl rfl rfl rfl
theorem bit4L : Statement (.bit4L) := of 0xCB 2 rfl rfl rfl rfl
theorem bit4Mhl : Statement (.bit4Mhl) := of 0xCB 2 rfl rfl rfl rfl
theorem bit4A : Statement (.bit4A) := of 0xCB 2 rfl rfl rfl rfl
theorem bit5B : Statement (.bit5B) := of 0xCB 2 rfl rfl rfl rfl
theorem bit5C : Statement (.bit5C) := of 0xCB 2 rfl rfl rfl rfl
theorem bit5D : Statement (.bit5D) := of 0xCB 2 rfl rfl rfl rfl
theorem bit5E : Statement (.bit5E) := of 0xCB 2 rfl rfl rfl rfl
theorem bit5H : Statement (.bit5H) := of 0xCB 2 rfl rfl rfl rfl
theorem bit5L : Statement (.bit5L) := of 0xCB 2 rfl rfl rfl rfl
theorem bit5Mhl : Statement (.bit5Mhl) := of 0xCB 2 rfl rfl rfl rfl
theorem bit5A : Statement (.bit5A) := of 0xCB 2 rfl rfl rfl rfl
theorem bit6B : Statement (.bit6B) := of 0xCB 2 rfl rfl rfl rfl
theorem bit6C : Statement (.bit6C) := of 0xCB 2 rfl rfl rfl rfl
theorem bit6D : Statement (.bit6D) := of 0xCB 2 rfl rfl rfl rfl
theorem bit6E : Statement (.bit6E) := of 0xCB 2 rfl rfl rfl rfl
theorem bit6H : Statement (.bit6H) := of 0xCB 2 rfl rfl rfl rfl
theorem bit6L : Statement (.bit6L) := of 0xCB 2 rfl rfl rfl rfl
theorem bit6Mhl : Statement (.bit6Mhl) := of 0xCB 2 rfl rfl rfl rfl
theorem bit6A : Statement (.bit6A) := of 0xCB 2 rfl rfl rfl rfl
theorem bit7B : Statement (.bit7B) := of 0xCB 2 rfl rfl rfl rfl
theorem bit7C : Statement (.bit7C) := of 0xCB 2 rfl rfl rfl rfl
theorem bit7D : Statement (.bit7D) := of 0xCB 2 rfl rfl rfl rfl
theorem bit7E : Statement (.bit7E) := of 0xCB 2 rfl rfl rfl rfl
theorem bit7H : Statement (.bit7H) := of 0xCB 2 rfl rfl rfl rfl
theorem bit7L : Statement (.bit7L) := of 0xCB 2 rfl rfl rfl rfl
theorem bit7Mhl : Statement (.bit7Mhl) := of 0xCB 2 rfl rfl rfl rfl
theorem bit7A : Statement (.bit7A) := of 0xCB 2 rfl rfl rfl rfl
theorem res0B : Statement (.res0B) := of 0xCB 2 rfl rfl rfl rfl
theorem res0C : Statement (.res0C) := of 0xCB 2 rfl rfl rfl rfl
theorem res0D : Statement (.res0D) := of 0xCB 2 rfl rfl rfl rfl
theorem res0E : Statement (.res0E) := of 0xCB 2 rfl rfl rfl rfl
theorem res0H : Statement (.res0H) := of 0xCB 2 rfl rfl rfl rfl
theorem res0L : Statement (.res0L) := of 0xCB 2 rfl rfl rfl rfl
theorem res0Mhl : Statement (.res0Mhl) := of 0xCB 2 rfl rfl rfl rfl
theorem res0A : Statement (.res0A) := of 0xCB 2 rfl rfl rfl rfl
theorem res1B : Statement (.res1B) := of 0xCB 2 rfl rfl rfl rfl
theorem res1C : Statement (.res1C) := of 0xCB 2 rfl rfl rfl rfl
theorem res1D : Statement (.res1D) := of 0xCB 2 rfl rfl rfl rfl
theorem res1E : Statement (.res1E) := of 0xCB 2 rfl rfl rfl rfl
theorem res1H : Statement (.res1H) := of 0xCB 2 rfl rfl rfl rfl
theorem res1L : Statement (.res1L) := of 0xCB 2 rfl rfl rfl rfl
theorem res1Mhl : Statement (.res1Mhl) := of 0xCB 2 rfl rfl rfl rfl
theorem res1A : Statement (.res1A) := of 0xCB 2 rfl rfl rfl rfl
theorem res2B : Statement (.res2B) := of 0xCB 2 rfl rfl rfl rfl
theorem res2C : Statement (.res2C) := of 0xCB 2 rfl rfl rfl rfl
theorem res2D : Statement (.res2D) := of 0xCB 2 rfl rfl rfl rfl
theorem res2E : Statement (.res2E) := of 0xCB 2 rfl rfl rfl rfl
theorem res2H : Statement (.res2H) := of 0xCB 2 rfl rfl rfl rfl
theorem res2L : Statement (.res2L) := of 0xCB 2 rfl rfl rfl rfl
theorem res2Mhl : Statement (.res2Mhl) := of 0xCB 2 rfl rfl rfl rfl
theorem res2A : Statement (.res2A) := of 0xCB 2 rfl rfl rfl rfl
theorem res3B : Statement (.res3B) := of 0xCB 2 rfl rfl rfl rfl
theorem res3C : Statement (.res3C) := of 0xCB 2 rfl rfl rfl rfl
theorem res3D : Statement (.res3D) := of 0xCB 2 rfl rfl rfl rfl
theorem res3E : Statement (.res3E) := of 0xCB 2 rfl rfl rfl rfl
theorem res3H : Statement (.res3H) := of 0xCB 2 rfl rfl rfl rfl
theorem res3L : Statement (.res3L) := of 0xCB 2 rfl rfl rfl rfl
theorem res3Mhl : Statement (.res3Mhl) := of 0xCB 2 rfl rfl rfl rfl
theorem res3A : Statement (.res3A) := of 0xCB 2 rfl rfl rfl rfl
theorem res4B : Statement (.res4B) := of 0xCB 2 rfl rfl rfl rfl
theorem res4C : Statement (.res4C) := of 0xCB 2 rfl rfl rfl rfl
theorem res4D : Statement (.res4D) := of 0xCB 2 rfl rfl rfl rfl
theorem res4E : Statement (.res4E) := of 0xCB 2 rfl rfl rfl rfl
theorem res4H : Statement (.res4H) := of 0xCB 2 rfl rfl rfl rfl
theorem res4L : Statement (.res4L) := of 0xCB 2 rfl rfl rfl rfl
theorem res4Mhl : Statement (.res4Mhl) := of 0xCB 2 rfl rfl rfl rfl
theorem res4A : Statement (.res4A) := of 0xCB 2 rfl rfl rfl rfl
theorem res5B : Statement (.res5B) := of 0xCB 2 rfl rfl rfl rfl
theorem res5C : Statement (.res5C) := of 0xCB 2 rfl rfl rfl rfl
theorem res5D : Statement (.res5D) := of 0xCB 2 rfl rfl rfl rfl
theorem res5E : Statement (.res5E) := of 0xCB 2 rfl rfl rfl rfl
theorem res5H : Statement (.res5H) := of 0xCB 2 rfl rfl rfl rfl
theorem res5L : Statement (.res5L) := of 0xCB 2 rfl rfl rfl rfl
theorem res5Mhl : Statement (.res5Mhl) := of 0xCB 2 rfl rfl rfl rfl
theorem res5A : Statement (.res5A) := of 0xCB 2 rfl rfl rfl rfl
theorem res6B : Statement (.res6B) := of 0xCB 2 rfl rfl rfl rfl
theorem res6C : Statement (.res6C) := of 0xCB 2 rfl rfl rfl rfl
theorem res6D : Statement (.res6D) := of 0xCB 2 rfl rfl rfl rfl
theorem res6E : Statement (.res6E) := of 0xCB 2 rfl rfl rfl rfl
theorem res6H : Statement (.res6H) := of 0xCB 2 rfl rfl rfl rfl
theorem res6L : Statement (.res6L) := of 0xCB 2 rfl rfl rfl rfl
theorem res6Mhl : Statement (.res6Mhl) := of 0xCB 2 rfl rfl rfl rfl
theorem res6A : Statement (.res6A) := of 0xCB 2 rfl rfl rfl rfl
theorem res7B : Statement (.res7B) := of 0xCB 2 rfl rfl rfl rfl
theorem res7C : Statement (.res7C) := of 0xCB 2 rfl rfl rfl rfl
theorem res7D : Statement (.res7D) := of 0xCB 2 rfl rfl rfl rfl
theorem res7E : Statement (.res7E) := of 0xCB 2 rfl rfl rfl rfl
theorem res7H : Statement (.res7H) := of 0xCB 2 rfl rfl rfl rfl
theorem res7L : Statement (.res7L) := of 0xCB 2 rfl rfl rfl rfl
theorem res7Mhl : Statement (.res7Mhl) := of 0xCB 2 rfl rfl rfl rfl
theorem res7A : Statement (.res7A) := of 0xCB 2 rfl rfl rfl rfl
theorem set0B : Statement (.set0B) := of 0xCB 2 rfl rfl rfl rfl
theorem set0C : Statement (.set0C) := of 0xCB 2 rfl rfl rfl rfl
theorem set0D : Statement (.set0D) := of 0xCB 2 rfl rfl rfl rfl
theorem set0E : Statement (.set0E) := of 0xCB 2 rfl rfl rfl rfl
theorem set0H : Statement (.set0H) := of 0xCB 2 rfl rfl rfl rfl
theorem set0L : Statement (.set0L) := of 0xCB 2 rfl rfl rfl rfl
theorem set0Mhl : Statement (.set0Mhl) := of 0xCB 2 rfl rfl rfl rfl
theorem set0A : Statement (.set0A) := of 0xCB 2 rfl rfl rfl rfl
theorem set1B : Statement (.set1B) := of 0xCB 2 rfl rfl rfl rfl
theorem set1C : Statement (.set1C) := of 0xCB 2 rfl rfl rfl rfl
theorem set1D : Statement (.set1D) := of 0xCB 2 rfl rfl rfl rfl
theorem set1E : Statement (.set1E) := of 0xCB 2 rfl rfl rfl rfl
theorem set1H : Statement (.set1H) := of 0xCB 2 rfl rfl rfl rfl
theorem set1L : Statement (.set1L) := of 0xCB 2 rfl rfl rfl rfl
theorem set1Mhl : Statement (.set1Mhl) := of 0xCB 2 rfl rfl rfl rfl
theorem set1A : Statement (.set1A) := of 0xCB 2 rfl rfl rfl rfl
theorem set2B : Statement (.set2B) := of 0xCB 2 rfl rfl rfl rfl
theorem set2C : Statement (.set2C) := of 0xCB 2 rfl rfl rfl rfl
theorem set2D : Statement (.set2D) := of 0xCB 2 rfl rfl rfl rfl
theorem set2E : Statement (.set2E) := of 0xCB 2 rfl rfl rfl rfl
theorem set2H : Statement (.set2H) := of 0xCB 2 rfl rfl rfl rfl
theorem set2L : Statement (.set2L) := of 0xCB 2 rfl rfl rfl rfl
theorem set2Mhl : Statement (.set2Mhl) := of 0xCB 2 rfl rfl rfl rfl
theorem set2A : Statement (.set2A) := of 0xCB 2 rfl rfl rfl rfl
theorem set3B : Statement (.set3B) := of 0xCB 2 rfl rfl rfl rfl
theorem set3C : Statement (.set3C) := of 0xCB 2 rfl rfl rfl rfl
theorem set3D : Statement (.set3D) := of 0xCB 2 rfl rfl rfl rfl
theorem set3E : Statement (.set3E) := of 0xCB 2 rfl rfl rfl rfl
theorem set3H : Statement (.set3H) := of 0xCB 2 rfl rfl rfl rfl
theorem set3L : Statement (.set3L) := of 0xCB 2 rfl rfl rfl rfl
theorem set3Mhl : Statement (.set3Mhl) := of 0xCB 2 rfl rfl rfl rfl
theorem set3A : Statement (.set3A) := of 0xCB 2 rfl rfl rfl rfl
theorem set4B : Statement (.set4B) := of 0xCB 2 rfl rfl rfl rfl
theorem set4C : Statement (.set4C) := of 0xCB 2 rfl rfl rfl rfl
theorem set4D : Statement (.set4D) := of 0xCB 2 rfl rfl rfl rfl
theorem set4E : Statement (.set4E) := of 0xCB 2 rfl rfl rfl rfl
theorem set4H : Statement (.set4H) := of 0xCB 2 rfl rfl rfl rfl
theorem set4L : Statement (.set4L) := of 0xCB 2 rfl rfl rfl rfl
theorem set4Mhl : Statement (.set4Mhl) := of 0xCB 2 rfl rfl rfl rfl
theorem set4A : Statement (.set4A) := of 0xCB 2 rfl rfl rfl rfl
theorem set5B : Statement (.set5B) := of 0xCB 2 rfl rfl rfl rfl
theorem set5C : Statement (.set5C) := of 0xCB 2 rfl rfl rfl rfl
theorem set5D : Statement (.set5D) := of 0xCB 2 rfl rfl rfl rfl
theorem set5E : Statement (.set5E) := of 0xCB 2 rfl rfl rfl rfl
theorem set5H : Statement (.set5H) := of 0xCB 2 rfl rfl rfl rfl
theorem set5L : Statement (.set5L) := of 0xCB 2 rfl rfl rfl rfl
theorem set5Mhl : Statement (.set5Mhl) := of 0xCB 2 rfl rfl rfl rfl
theorem set5A : Statement (.set5A) := of 0xCB 2 rfl rfl rfl rfl
theorem set6B : Statement (.set6B) := of 0xCB 2 rfl rfl rfl rfl
theorem set6C : Statement (.set6C) := of 0xCB 2 rfl rfl rfl rfl
theorem set6D : Statement (.set6D) := of 0xCB 2 rfl rfl rfl rfl
theorem set6E : Statement (.set6E) := of 0xCB 2 rfl rfl rfl rfl
theorem set6H : Statement (.set6H) := of 0xCB 2 rfl rfl rfl rfl
theorem set6L : Statement (.set6L) := of 0xCB 2 rfl rfl rfl rfl
theorem set6Mhl : Statement (.set6Mhl) := of 0xCB 2 rfl rfl rfl rfl
theorem set6A : Statement (.set6A) := of 0xCB 2 rfl rfl rfl rfl
theorem set7B : Statement (.set7B) := of 0xCB 2 rfl rfl rfl rfl
theorem set7C : Statement (.set7C) := of 0xCB 2 rfl rfl rfl rfl
theorem set7D : Statement (.set7D) := of 0xCB 2 rfl rfl rfl rfl
theorem set7E : Statement (.set7E) := of 0xCB 2 rfl rfl rfl rfl
theorem set7H : Statement (.set7H) := of 0xCB 2 rfl rfl rfl rfl
theorem set7L : Statement (.set7L) := of 0xCB 2 rfl rfl rfl rfl
theorem set7Mhl : Statement (.set7Mhl) := of 0xCB 2 rfl rfl rfl rfl
theorem set7A : Statement (.set7A) := of 0xCB 2 rfl rfl rfl rfl

end Sys2Proof.Laws.Encoding
end

