-- ==== Sys2Proof/Laws/Picture.lean ====
section
/-! SUPPORT. The composition of a line in the words of Safety.lean: tiles, maps, window, mix and row. -/

namespace Sys2Proof.Machine

/-- A bit as a number, by division. -/
theorem bitNat_getLsbD (v : Byte) (k : Nat) : bitNat (v.getLsbD k) = v.toNat / 2 ^ k % 2 := by
  rw [BitVec.getLsbD, Nat.testBit_eq_decide_div_mod_eq]
  unfold bitNat
  rcases Nat.mod_two_eq_zero_or_one (v.toNat / 2 ^ k) with h | h <;> simp [h]

/-- A tile pixel in the words of Safety.lean: the tile by its offset in VRAM. -/
theorem tilePixel_indexOfPlanes (vram : Store) (tile row col : Nat) :
    tilePixel vram (0x8000 + tile) row col = indexOfPlanes vram tile row col := by
  have h1 : 0x8000 + tile + 2 * row + 1 - 0x8000 = tile + 2 * row + 1 := by
    rw [Nat.add_assoc, Nat.add_assoc, Nat.add_sub_cancel_left, ← Nat.add_assoc]
  have h0 : 0x8000 + tile + 2 * row - 0x8000 = tile + 2 * row := by
    rw [Nat.add_assoc, Nat.add_sub_cancel_left]
  simp only [tilePixel, indexOfPlanes, vramAt, h1, h0, bitNat_getLsbD, Nat.add_zero]

/-- The two tile address modes as one offset. -/
theorem Ppu.bgTileAddr_eq (p : Ppu) (t : Byte) : p.bgTileAddr t =
    0x8000 + 16 * (if p.lcdc.getLsbD 4 = false ∧ t.toNat < 128 then t.toNat + 256 else t.toNat) := by
  unfold Ppu.bgTileAddr
  have := BitVec.toInt_eq_toNat_cond t
  have ht := t.isLt
  cases h : p.lcdc.getLsbD 4
  · by_cases hc : t.toNat < 128
    · simp only [hc, and_self, if_true, Bool.false_eq_true, if_false]
      rw [if_pos (by omega)] at this; omega
    · simp only [hc, and_false, if_false, Bool.false_eq_true]
      rw [if_neg (by omega)] at this; omega
  · simp

/-- A tile map pixel in the words of Safety.lean. -/
theorem Ppu.mapPixel_mapIndex (p : Ppu) (vram : Store) (high : Bool) (px py : Nat) :
    p.mapPixel vram high px py = mapIndex p.lcdc vram high px py := by
  have h : (if high then 0x9C00 else 0x9800) + 32 * (py / 8) + px / 8 - 0x8000 =
      (if high then 0x1C00 else 0x1800) + 32 * (py / 8) + px / 8 := by split <;> omega
  simp only [Ppu.mapPixel, mapIndex, Ppu.bgTileAddr_eq, tilePixel_indexOfPlanes, vramAt, h]

/-- The background and window index in the words of Safety.lean. -/
theorem Ppu.bgIndex_backgroundIndex (p : Ppu) (vram : Store) (x y : Nat) :
    p.bgIndex vram x y = backgroundIndex p vram x y := by
  unfold Ppu.bgIndex backgroundIndex Ppu.windowCovers
  cases h0 : p.lcdc.getLsbD 0 <;>
    simp [Ppu.mapPixel_mapIndex, Nat.add_comm x p.scx.toNat, Nat.add_comm y p.scy.toNat, and_assoc]

/-- The colour the mixer gives a pixel, in the words of Safety.lean. -/
theorem Ppu.color_mix (p : Ppu) (vram : Store) (objs : List Sprite) (x y : Nat) :
    p.palette.color (p.mix vram objs x y) =
      pixelColor p vram ((p.spritePixel vram objs x y).map fun s => (s, p.spriteIndex vram s x y)) x y := by
  have color : ∀ n, p.palette.color n = if n = 0 then p.palette.c0 else if n = 1 then p.palette.c1
      else if n = 2 then p.palette.c2 else p.palette.c3 := by
    intro n; match n with
    | 0 => rfl
    | 1 => rfl
    | 2 => rfl
    | n + 3 => simp [Palette.color]
  rw [color]
  simp only [Ppu.mix, pixelColor, Ppu.bgIndex_backgroundIndex, Ppu.bgShade, shadeOf, Nat.pow_mul,
    show (2:Nat)^2 = 4 from rfl]
  cases p.spritePixel vram objs x y <;> simp

/-- The row `renderLine` writes, in the words of Safety.lean. -/
theorem Ppu.composeRow_composedRow (model : ConsoleMode) (draws : Nat) (vram oam : Store) (p : Ppu) (y : Nat) :
    (match model with
      | .cgb => drawnRow draws
      | .dmg | .sgb => p.composeRow vram oam y) = composedRow model draws vram oam p y := by
  cases model <;> simp only [composedRow, Ppu.composeRow, Ppu.color_mix]

/-- The window shows on a line exactly when it is on and not off the right edge. -/
theorem Ppu.any_windowCovers (p : Ppu) : (List.range 160).any p.windowCovers = true ↔
    p.lcdc.getLsbD 0 = true ∧ p.lcdc.getLsbD 5 = true ∧ p.windowYHit = true ∧ p.wx.toNat ≤ 166 := by
  simp only [List.any_eq_true, List.mem_range, Ppu.windowCovers, Bool.and_eq_true, decide_eq_true_eq]
  constructor
  · rintro ⟨x, hx, ⟨⟨a, b⟩, c⟩, d⟩
    exact ⟨a, b, c, by omega⟩
  · rintro ⟨a, b, c, d⟩
    exact ⟨159, by omega, ⟨⟨a, b⟩, c⟩, by omega⟩

/-- The sprites of a line are OAM entries in OAM order. -/
theorem Ppu.selectSprites_pairwise (p : Ppu) (oam : Store) (y : Nat) :
    (p.selectSprites oam y).Pairwise (fun a b => a.index < b.index) := by
  unfold Ppu.selectSprites
  split
  · refine List.Pairwise.sublist ((List.take_sublist _ _).trans List.filter_sublist) ?_
    rw [List.pairwise_map]
    exact List.pairwise_lt_range
  · exact List.Pairwise.nil

end Sys2Proof.Machine
end

