-- ==== Sys2Proof/Tests/Slice0.lean ====
section
/-! SUPPORT. The model's own tests: the well-formedness smoke test, every constructor's decoding from the
opcode maps of 30_encoding.md, one step of each family against the values of 95_test_vectors.md, and for
every statement with hypotheses a state that meets them. -/

namespace Sys2Proof.Tests

open Sys2Proof Sys2Proof.Machine

/-! ## Well-formedness: a displacement outside -128..127 is refused (R223) -/

theorem test_wellFormed_jr : [-129, -128, 127, 128].map (fun e => (Instr.jrE e).wellFormed) =
    [false, true, true, false] := by decide
theorem test_wellFormed_jrNz : (Instr.jrNzE 128).wellFormed = false := by decide
theorem test_wellFormed_jrZ : (Instr.jrZE (-129)).wellFormed = false := by decide
theorem test_wellFormed_jrNc : (Instr.jrNcE 300).wellFormed = false := by decide
theorem test_wellFormed_jrC : (Instr.jrCE (-1000)).wellFormed = false := by decide
theorem test_wellFormed_addSp : (Instr.addSpE 128).wellFormed = false := by decide
theorem test_wellFormed_ldHlSp : (Instr.ldHlSpE (-129)).wellFormed = false := by decide
theorem test_wellFormed_plain : (Instr.ldAN 0xFF).wellFormed = true := by decide

/-! ## Decoding: every constructor, from the opcode maps of R230 and R231

Row by row and column by column as the maps print them; the bytes after the opcode are 0x34, 0x12, so
`n` and `e` are 0x34 and `nn` is 0x1234 (R223). In row 0xC, 0xCB 0x34 is SWAP H (R231). -/

/-- What the sixteen opcode bytes of a map row decode to. -/
def mapRow (hi : Nat) : List (Option Instr) :=
  (List.range 16).map fun lo =>
    match decode [byte (16 * hi + lo), 0x34, 0x12] with
    | .ok (i, _) => some i
    | .error _ => none

/-- What the sixteen second bytes of a row of the CB map decode to. -/
def cbRow (hi : Nat) : List (Option Instr) :=
  (List.range 16).map fun lo =>
    match decode [0xCB, byte (16 * hi + lo)] with
    | .ok (i, _) => some i
    | .error _ => none

theorem test_decode_base_0 : mapRow 0x0 =
    [.nop, .ldBcNn 0x1234, .ldMbcA, .incBc, .incB, .decB, .ldBN 0x34, .rlca, .ldMnnSp 0x1234, .addHlBc,
     .ldAMbc, .decBc, .incC, .decC, .ldCN 0x34, .rrca].map some := by decide
theorem test_decode_base_1 : mapRow 0x1 =
    [.stop 0x34, .ldDeNn 0x1234, .ldMdeA, .incDe, .incD, .decD, .ldDN 0x34, .rla, .jrE 0x34, .addHlDe,
     .ldAMde, .decDe, .incE, .decE, .ldEN 0x34, .rra].map some := by decide
theorem test_decode_base_2 : mapRow 0x2 =
    [.jrNzE 0x34, .ldHlNn 0x1234, .ldMhliA, .incHl, .incH, .decH, .ldHN 0x34, .daa, .jrZE 0x34,
     .addHlHl, .ldAMhli, .decHl, .incL, .decL, .ldLN 0x34, .cpl].map some := by decide
theorem test_decode_base_3 : mapRow 0x3 =
    [.jrNcE 0x34, .ldSpNn 0x1234, .ldMhldA, .incSp, .incMhl, .decMhl, .ldMhlN 0x34, .scf, .jrCE 0x34,
     .addHlSp, .ldAMhld, .decSp, .incA, .decA, .ldAN 0x34, .ccf].map some := by decide
theorem test_decode_base_4 : mapRow 0x4 =
    [.ldBB, .ldBC, .ldBD, .ldBE, .ldBH, .ldBL, .ldBMhl, .ldBA, .ldCB, .ldCC, .ldCD, .ldCE, .ldCH,
     .ldCL, .ldCMhl, .ldCA].map some := by decide
theorem test_decode_base_5 : mapRow 0x5 =
    [.ldDB, .ldDC, .ldDD, .ldDE, .ldDH, .ldDL, .ldDMhl, .ldDA, .ldEB, .ldEC, .ldED, .ldEE, .ldEH,
     .ldEL, .ldEMhl, .ldEA].map some := by decide
theorem test_decode_base_6 : mapRow 0x6 =
    [.ldHB, .ldHC, .ldHD, .ldHE, .ldHH, .ldHL, .ldHMhl, .ldHA, .ldLB, .ldLC, .ldLD, .ldLE, .ldLH,
     .ldLL, .ldLMhl, .ldLA].map some := by decide
theorem test_decode_base_7 : mapRow 0x7 =
    [.ldMhlB, .ldMhlC, .ldMhlD, .ldMhlE, .ldMhlH, .ldMhlL, .halt, .ldMhlA, .ldAB, .ldAC, .ldAD, .ldAE,
     .ldAH, .ldAL, .ldAMhl, .ldAA].map some := by decide
theorem test_decode_base_8 : mapRow 0x8 =
    [.addAB, .addAC, .addAD, .addAE, .addAH, .addAL, .addAMhl, .addAA, .adcAB, .adcAC, .adcAD, .adcAE,
     .adcAH, .adcAL, .adcAMhl, .adcAA].map some := by decide
theorem test_decode_base_9 : mapRow 0x9 =
    [.subB, .subC, .subD, .subE, .subH, .subL, .subMhl, .subA, .sbcAB, .sbcAC, .sbcAD, .sbcAE, .sbcAH,
     .sbcAL, .sbcAMhl, .sbcAA].map some := by decide
theorem test_decode_base_A : mapRow 0xA =
    [.andB, .andC, .andD, .andE, .andH, .andL, .andMhl, .andA, .xorB, .xorC, .xorD, .xorE, .xorH,
     .xorL, .xorMhl, .xorA].map some := by decide
theorem test_decode_base_B : mapRow 0xB =
    [.orB, .orC, .orD, .orE, .orH, .orL, .orMhl, .orA, .cpB, .cpC, .cpD, .cpE, .cpH, .cpL, .cpMhl,
     .cpA].map some := by decide
theorem test_decode_base_C : mapRow 0xC =
    [.retNz, .popBc, .jpNzNn 0x1234, .jpNn 0x1234, .callNzNn 0x1234, .pushBc, .addAN 0x34, .rst00,
     .retZ, .ret, .jpZNn 0x1234, .swapH, .callZNn 0x1234, .callNn 0x1234, .adcAN 0x34,
     .rst08].map some := by decide
theorem test_decode_base_D : mapRow 0xD =
    [.retNc, .popDe, .jpNcNn 0x1234, .invalidD3, .callNcNn 0x1234, .pushDe, .subN 0x34, .rst10, .retC,
     .reti, .jpCNn 0x1234, .invalidDB, .callCNn 0x1234, .invalidDD, .sbcAN 0x34,
     .rst18].map some := by decide
theorem test_decode_base_E : mapRow 0xE =
    [.ldhMnA 0x34, .popHl, .ldhMcA, .invalidE3, .invalidE4, .pushHl, .andN 0x34, .rst20, .addSpE 0x34,
     .jpHl, .ldMnnA 0x1234, .invalidEB, .invalidEC, .invalidED, .xorN 0x34,
     .rst28].map some := by decide
theorem test_decode_base_F : mapRow 0xF =
    [.ldhAMn 0x34, .popAf, .ldhAMc, .di, .invalidF4, .pushAf, .orN 0x34, .rst30, .ldHlSpE 0x34,
     .ldSpHl, .ldAMnn 0x1234, .ei, .invalidFC, .invalidFD, .cpN 0x34, .rst38].map some := by decide
theorem test_decode_cb_0 : cbRow 0x0 =
    [.rlcB, .rlcC, .rlcD, .rlcE, .rlcH, .rlcL, .rlcMhl, .rlcA, .rrcB, .rrcC, .rrcD, .rrcE, .rrcH,
     .rrcL, .rrcMhl, .rrcA].map some := by decide
theorem test_decode_cb_1 : cbRow 0x1 =
    [.rlB, .rlC, .rlD, .rlE, .rlH, .rlL, .rlMhl, .rlA, .rrB, .rrC, .rrD, .rrE, .rrH, .rrL, .rrMhl,
     .rrA].map some := by decide
theorem test_decode_cb_2 : cbRow 0x2 =
    [.slaB, .slaC, .slaD, .slaE, .slaH, .slaL, .slaMhl, .slaA, .sraB, .sraC, .sraD, .sraE, .sraH,
     .sraL, .sraMhl, .sraA].map some := by decide
theorem test_decode_cb_3 : cbRow 0x3 =
    [.swapB, .swapC, .swapD, .swapE, .swapH, .swapL, .swapMhl, .swapA, .srlB, .srlC, .srlD, .srlE,
     .srlH, .srlL, .srlMhl, .srlA].map some := by decide
theorem test_decode_cb_4 : cbRow 0x4 =
    [.bit0B, .bit0C, .bit0D, .bit0E, .bit0H, .bit0L, .bit0Mhl, .bit0A, .bit1B, .bit1C, .bit1D, .bit1E,
     .bit1H, .bit1L, .bit1Mhl, .bit1A].map some := by decide
theorem test_decode_cb_5 : cbRow 0x5 =
    [.bit2B, .bit2C, .bit2D, .bit2E, .bit2H, .bit2L, .bit2Mhl, .bit2A, .bit3B, .bit3C, .bit3D, .bit3E,
     .bit3H, .bit3L, .bit3Mhl, .bit3A].map some := by decide
theorem test_decode_cb_6 : cbRow 0x6 =
    [.bit4B, .bit4C, .bit4D, .bit4E, .bit4H, .bit4L, .bit4Mhl, .bit4A, .bit5B, .bit5C, .bit5D, .bit5E,
     .bit5H, .bit5L, .bit5Mhl, .bit5A].map some := by decide
theorem test_decode_cb_7 : cbRow 0x7 =
    [.bit6B, .bit6C, .bit6D, .bit6E, .bit6H, .bit6L, .bit6Mhl, .bit6A, .bit7B, .bit7C, .bit7D, .bit7E,
     .bit7H, .bit7L, .bit7Mhl, .bit7A].map some := by decide
theorem test_decode_cb_8 : cbRow 0x8 =
    [.res0B, .res0C, .res0D, .res0E, .res0H, .res0L, .res0Mhl, .res0A, .res1B, .res1C, .res1D, .res1E,
     .res1H, .res1L, .res1Mhl, .res1A].map some := by decide
theorem test_decode_cb_9 : cbRow 0x9 =
    [.res2B, .res2C, .res2D, .res2E, .res2H, .res2L, .res2Mhl, .res2A, .res3B, .res3C, .res3D, .res3E,
     .res3H, .res3L, .res3Mhl, .res3A].map some := by decide
theorem test_decode_cb_A : cbRow 0xA =
    [.res4B, .res4C, .res4D, .res4E, .res4H, .res4L, .res4Mhl, .res4A, .res5B, .res5C, .res5D, .res5E,
     .res5H, .res5L, .res5Mhl, .res5A].map some := by decide
theorem test_decode_cb_B : cbRow 0xB =
    [.res6B, .res6C, .res6D, .res6E, .res6H, .res6L, .res6Mhl, .res6A, .res7B, .res7C, .res7D, .res7E,
     .res7H, .res7L, .res7Mhl, .res7A].map some := by decide
theorem test_decode_cb_C : cbRow 0xC =
    [.set0B, .set0C, .set0D, .set0E, .set0H, .set0L, .set0Mhl, .set0A, .set1B, .set1C, .set1D, .set1E,
     .set1H, .set1L, .set1Mhl, .set1A].map some := by decide
theorem test_decode_cb_D : cbRow 0xD =
    [.set2B, .set2C, .set2D, .set2E, .set2H, .set2L, .set2Mhl, .set2A, .set3B, .set3C, .set3D, .set3E,
     .set3H, .set3L, .set3Mhl, .set3A].map some := by decide
theorem test_decode_cb_E : cbRow 0xE =
    [.set4B, .set4C, .set4D, .set4E, .set4H, .set4L, .set4Mhl, .set4A, .set5B, .set5C, .set5D, .set5E,
     .set5H, .set5L, .set5Mhl, .set5A].map some := by decide
theorem test_decode_cb_F : cbRow 0xF =
    [.set6B, .set6C, .set6D, .set6E, .set6H, .set6L, .set6Mhl, .set6A, .set7B, .set7C, .set7D, .set7E,
     .set7H, .set7L, .set7Mhl, .set7A].map some := by decide

theorem test_decode_negative : decode [0x18, 0x80] = .ok (.jrE (-128), []) := by decide
theorem test_decode_short : decode [0xC3, 0x34] = .error (.missingOperand 0xC3) := by decide
theorem test_tableWord_nn : decodeTableWord 8 0xC3 = some (.jpNn 0) := by decide

/-! ## One step of each family (95_test_vectors.md) -/

/-- The machine after reset with every subsystem off, so that a step moves the CPU alone. -/
def small : State := { State.reset with enable := ⟨false, false, false, false, false⟩ }

/-- WRAM bytes, by their offset from 0xC000. -/
def State.ram (s : State) (cells : Store) : State := s.withMem { s.mem with wram := cells }

/-- F as the vectors write it. -/
def State.f (s : State) (v : Byte) : State := s.setFlags (Flags.ofByte v)

/-- The instruction encoded by the bytes runs in `s` and leaves what is asked for. -/
def ran (bytes : List Byte) (s : State) (asked : State → Bool) : Bool :=
  match decode bytes with
  | .ok (i, []) =>
    match exec i s with
    | .next t => asked t
    | _ => false
  | _ => false

/-- A, F and the step's cost. -/
def aluLeaves (a f : Byte) (cost : Nat) (t : State) : Bool :=
  t.reg8 .a == a && t.cpu.flags.toByte == f && t.stepCost == cost

theorem test_ldBC : ran [0x41] (small.setReg8 .c 0x5A) (fun t => t.reg8 .b == 0x5A && t.stepCost == 4) =
    true := by decide
theorem test_ldMhlN : ran [0x36, 0x7E] (small.setReg16 .hl 0xC123)
    (fun t => t.busRead 0xC123 == .value 0x7E && t.stepCost == 12) = true := by decide
theorem test_ldAMhli : ran [0x2A] ((State.ram small [(0xFF, 0x42)]).setReg16 .hl 0xC0FF)
    (fun t => t.reg8 .a == 0x42 && t.hl == 0xC100) = true := by decide
theorem test_ldMhldA_wraps : ran [0x32] ((small.setReg8 .a 0x99).setReg16 .hl 0)
    (fun t => t.hl == 0xFFFF) = true := by decide
theorem test_ldhMnA : ran [0xE0, 0x80] (small.setReg8 .a 0x12)
    (fun t => t.busRead 0xFF80 == .value 0x12 && t.stepCost == 12) = true := by decide
theorem test_ldhMcA_if : ran [0xE2] ((small.setReg8 .a 0x04).setReg8 .c 0x0F)
    (fun t => t.busRead 0xFF0F == .value 0xE4) = true := by decide
theorem test_ldAMnn_if : ran [0xFA, 0x0F, 0xFF] small (fun t => t.reg8 .a == 0xE1) = true := by decide
theorem test_ldAMde_echo : ran [0x1A] ((State.ram small [(0x10, 0x77)]).setReg16 .de 0xE010)
    (fun t => t.reg8 .a == 0x77) = true := by decide
theorem test_ldMnnA_rom : ran [0xEA, 0x00, 0x20] (small.setReg8 .a 5)
    (fun t => t.busRead 0x2000 == .value 0 && t.stepCost == 16) = true := by decide

theorem test_ldSpNn : ran [0x31, 0xFF, 0xDF] small (fun t => t.cpu.sp == 0xDFFF && t.stepCost == 12) =
    true := by decide
theorem test_ldMnnSp : ran [0x08, 0x00, 0xC0] (small.setSp 0x1234)
    (fun t => t.busRead 0xC000 == .value 0x34 && t.busRead 0xC001 == .value 0x12) = true := by decide
theorem test_pushAf : ran [0xF5] (State.f ((small.setReg8 .a 0x12).setSp 0xD000) 0xB0)
    (fun t => t.busRead 0xCFFF == .value 0x12 && t.busRead 0xCFFE == .value 0xB0 &&
      t.cpu.sp == 0xCFFE) = true := by decide
theorem test_popAf_masks : ran [0xF1] ((State.ram small [(0, 0xFF), (1, 0x34)]).setSp 0xC000)
    (fun t => aluLeaves 0x34 0xF0 12 t && t.cpu.sp == 0xC002) = true := by decide
theorem test_popBc_wraps : ran [0xC1]
    (((small.withInts { ie := 2, iflag := 0 }).withMem { small.mem with hram := [(0x7E, 1)] }).setSp 0xFFFE)
    (fun t => t.reg16 .bc == 0x0201 && t.cpu.sp == 0) = true := by decide
theorem test_ldHlSpE_minus : ran [0xF8, 0xFF] (State.f (small.setSp 0) 0xF0)
    (fun t => t.hl == 0xFFFF && t.cpu.flags.toByte == 0) = true := by decide
theorem test_ldHlSpE_carry : ran [0xF8, 0x01] (small.setSp 0x00FF)
    (fun t => t.hl == 0x0100 && t.cpu.flags.toByte == 0x30) = true := by decide

theorem test_addAB : ran [0x80] (State.f ((small.setReg8 .a 0x80).setReg8 .b 0x80) 0) (aluLeaves 0 0x90 4) =
    true := by decide
theorem test_adcAN : ran [0xCE, 0xFF] (State.f (small.setReg8 .a 0) 0x10) (aluLeaves 0 0xB0 8) =
    true := by decide
theorem test_subN : ran [0xD6, 0x01] (State.f (small.setReg8 .a 0) 0) (aluLeaves 0xFF 0x70 8) =
    true := by decide
theorem test_sbcAN : ran [0xDE, 0xFF] (State.f (small.setReg8 .a 0) 0x10) (aluLeaves 0 0xF0 8) =
    true := by decide
theorem test_andMhl : ran [0xA6]
    (State.f (((State.ram small [(0, 0x0F)]).setReg16 .hl 0xC000).setReg8 .a 0xF0) 0x10)
    (aluLeaves 0 0xA0 8) = true := by decide
theorem test_xorA : ran [0xAF] (State.f (small.setReg8 .a 0x5A) 0x70) (aluLeaves 0 0x80 4) =
    true := by decide
theorem test_orC : ran [0xB1] (State.f ((small.setReg8 .a 1).setReg8 .c 0x80) 0xF0)
    (aluLeaves 0x81 0 4) = true := by decide
theorem test_cpB : ran [0xB8] (State.f ((small.setReg8 .a 0x42).setReg8 .b 0x42) 0)
    (aluLeaves 0x42 0xC0 4) = true := by decide
theorem test_incA : ran [0x3C] (State.f (small.setReg8 .a 0xFF) 0x10) (aluLeaves 0 0xB0 4) =
    true := by decide
theorem test_decMhl : ran [0x35] (State.f ((State.ram small [(0, 0x10)]).setReg16 .hl 0xC000) 0x10)
    (fun t => t.busRead 0xC000 == .value 0x0F && t.cpu.flags.toByte == 0x70 && t.stepCost == 12) =
    true := by decide
theorem test_daa_add : ran [0x27] (State.f (small.setReg8 .a 0x32) 0x30) (aluLeaves 0x98 0x10 4) =
    true := by decide
theorem test_daa_sub : ran [0x27] (State.f (small.setReg8 .a 0xFF) 0x70) (aluLeaves 0x99 0x50 4) =
    true := by decide
theorem test_cpl : ran [0x2F] (State.f (small.setReg8 .a 0x0F) 0x90) (aluLeaves 0xF0 0xF0 4) =
    true := by decide
theorem test_scf : ran [0x37] (State.f small 0xE0) (fun t => t.cpu.flags.toByte == 0x90) =
    true := by decide
theorem test_ccf : ran [0x3F] (State.f small 0x10) (fun t => t.cpu.flags.toByte == 0) = true := by decide

theorem test_addHlHl : ran [0x29] (State.f (small.setReg16 .hl 0x8000) 0x80)
    (fun t => t.hl == 0 && t.cpu.flags.toByte == 0x90) = true := by decide
theorem test_addHlDe : ran [0x19] (State.f ((small.setReg16 .hl 0x0FFF).setReg16 .de 1) 0)
    (fun t => t.hl == 0x1000 && t.cpu.flags.toByte == 0x20) = true := by decide
theorem test_incBc : ran [0x03] (State.f (small.setReg16 .bc 0xFFFF) 0xA0)
    (fun t => t.reg16 .bc == 0 && t.cpu.flags.toByte == 0xA0) = true := by decide
theorem test_decHl : ran [0x2B] (small.setReg16 .hl 0x0100) (fun t => t.hl == 0x00FF) = true := by decide
theorem test_addSpE : ran [0xE8, 0x7F] (State.f (small.setSp 0xFF81) 0)
    (fun t => t.cpu.sp == 0 && t.cpu.flags.toByte == 0x30 && t.stepCost == 16) = true := by decide

theorem test_rlca : ran [0x07] (State.f (small.setReg8 .a 0) 0x80) (aluLeaves 0 0 4) = true := by decide
theorem test_rla : ran [0x17] (State.f (small.setReg8 .a 0x80) 0) (aluLeaves 0 0x10 4) = true := by decide
theorem test_rra : ran [0x1F] (State.f (small.setReg8 .a 0x01) 0x10) (aluLeaves 0x80 0x10 4) =
    true := by decide
theorem test_rlcA_cb : ran [0xCB, 0x07] (State.f (small.setReg8 .a 0) 0) (aluLeaves 0 0x80 8) =
    true := by decide
theorem test_rrMhl : ran [0xCB, 0x1E] (State.f ((State.ram small [(0, 2)]).setReg16 .hl 0xC000) 0x10)
    (fun t => t.busRead 0xC000 == .value 0x81 && t.cpu.flags.toByte == 0 && t.stepCost == 16) =
    true := by decide
theorem test_sraB : ran [0xCB, 0x28] (State.f (small.setReg8 .b 0x81) 0)
    (fun t => t.reg8 .b == 0xC0 && t.cpu.flags.toByte == 0x10) = true := by decide
theorem test_srlB : ran [0xCB, 0x38] (State.f (small.setReg8 .b 1) 0)
    (fun t => t.reg8 .b == 0 && t.cpu.flags.toByte == 0x90) = true := by decide
theorem test_swapMhl : ran [0xCB, 0x36] (State.f (small.setReg16 .hl 0xC000) 0x70)
    (fun t => t.busRead 0xC000 == .value 0 && t.cpu.flags.toByte == 0x80) = true := by decide
theorem test_bit0Mhl : ran [0xCB, 0x46] (State.f ((State.ram small [(0, 0xFE)]).setReg16 .hl 0xC000) 0x10)
    (fun t => t.cpu.flags.toByte == 0xB0 && t.stepCost == 12) = true := by decide
theorem test_res7Mhl : ran [0xCB, 0xBE] (State.f ((State.ram small [(0, 0xFF)]).setReg16 .hl 0xC000) 0xF0)
    (fun t => t.busRead 0xC000 == .value 0x7F && t.cpu.flags.toByte == 0xF0) = true := by decide
theorem test_set0H : ran [0xCB, 0xC4] (small.setReg8 .h 0) (fun t => t.reg8 .h == 1) = true := by decide

theorem test_jpNz_untaken : ran [0xC2, 0x00, 0x02] (State.f small 0x80)
    (fun t => t.cpu.pc == 0x0103 && t.stepCost == 12) = true := by decide
theorem test_jpZ_taken : ran [0xCA, 0x00, 0x02] (State.f small 0x80)
    (fun t => t.cpu.pc == 0x0200 && t.stepCost == 16) = true := by decide
theorem test_jr_back : ran [0x18, 0x80] small (fun t => t.cpu.pc == 0x0082) = true := by decide
theorem test_jr_wraps : ran [0x18, 0x05] (small.setPc 0xFFFC) (fun t => t.cpu.pc == 0x0003) =
    true := by decide
theorem test_callNn : ran [0xCD, 0x34, 0x12] small (fun t => t.cpu.pc == 0x1234 && t.cpu.sp == 0xFFFC &&
    t.busRead 0xFFFD == .value 1 && t.busRead 0xFFFC == .value 3 && t.stepCost == 24) = true := by decide
theorem test_callNc_untaken : ran [0xD4, 0x34, 0x12] (State.f small 0x10)
    (fun t => t.cpu.pc == 0x0103 && t.cpu.sp == 0xFFFE && t.stepCost == 12) = true := by decide
theorem test_retZ_taken : ran [0xC8] (State.f ((State.ram small [(1, 0x30)]).setSp 0xC000) 0x80)
    (fun t => t.cpu.pc == 0x3000 && t.cpu.sp == 0xC002 && t.stepCost == 20) = true := by decide
theorem test_reti : ran [0xD9] ((State.ram small [(1, 0x30)]).setSp 0xC000)
    (fun t => t.cpu.pc == 0x3000 && t.cpu.ime) = true := by decide
theorem test_rst38 : ran [0xFF] (small.setSp 0xD000)
    (fun t => t.cpu.pc == 0x0038 && t.busRead 0xCFFF == .value 1 && t.busRead 0xCFFE == .value 1) =
    true := by decide
theorem test_ei : ran [0xFB] small (fun t => !t.cpu.ime && t.cpu.imeDelay) = true := by decide
theorem test_halt : ran [0x76] (small.withInts { ie := 4, iflag := 0 })
    (fun t => t.cpu.halted && !t.cpu.haltBug && t.cpu.pc == 0x0101) = true := by decide
theorem test_halt_bug : ran [0x76] (small.withInts { ie := 1, iflag := 1 })
    (fun t => !t.cpu.halted && t.cpu.haltBug) = true := by decide
theorem test_stop : ran [0x10, 0x00] small
    (fun t => t.cpu.stopped && t.cpu.pc == 0x0102 && t.timer.sysclk == 0) = true := by decide
theorem test_illegal : exec .invalidDD small = .fault (.invalidOpcode 0xDD 0x0100) := rfl

/-! ## The step and the devices -/

/-- A step from `s` leaves what is asked for. -/
def stepped (s : State) (asked : State → Bool) : Bool :=
  match step s with
  | .next t => asked t
  | _ => false

/-- An interrupt state: IME, IF and IE, SP at 0xD000. -/
def irq (ime : Bool) (iflag : BitVec 5) (ie : Byte) : State :=
  ((small.withInts { ie := ie, iflag := iflag }).withCpu { small.cpu with ime := ime }).setSp 0xD000

theorem test_irq_lowest : stepped (irq true 5 0x1F) (fun t => t.cpu.pc == 0x0040 && t.cpu.sp == 0xCFFE &&
    t.busRead 0xCFFF == .value 1 && t.busRead 0xCFFE == .value 0 && t.ints.iflag == 4 && !t.cpu.ime &&
    t.stepCost == 20) = true := by decide +kernel
theorem test_irq_joypad : stepped (irq true 0x10 0x10) (fun t => t.cpu.pc == 0x0060 && t.ints.iflag == 0) =
    true := by decide +kernel
theorem test_irq_masked : stepped (irq false 1 1) (fun t => t.cpu.pc == 0x0101 && t.ints.iflag == 1) =
    true := by decide +kernel
theorem test_irq_wakes : stepped ((irq true 4 4).withCpu { (irq true 4 4).cpu with halted := true })
    (fun t => t.cpu.pc == 0x0050 && !t.cpu.halted && t.stepCost == 24) = true := by decide +kernel
theorem test_irq_overwrites_ie :
    stepped ((irq true 1 1).withCpu { (irq true 1 1).cpu with pc := 0x0010, sp := 0 })
    (fun t => t.cpu.pc == 0x0040 && t.cpu.sp == 0xFFFE && t.busRead 0xFFFE == .value 0x10 &&
      t.ints.ie == 0 && t.ints.iflag == 0) = true := by decide +kernel

/-- A timer about to overflow (R470): sysclk 15, TAC 5, TIMA 0xFF, TMA 0x80. -/
def overflowing : Timer := { small.timer with sysclk := 15, tima := 0xFF, tma := 0x80, tac := 5, inPrev := true }

theorem test_timer_overflow : [1, 2, 4, 5, 16, 17].map (fun n =>
    let t := repeatTick (fun x => x.tick.1) n overflowing
    (t.tima, t.reload)) =
    [(0x00, 4), (0x00, 3), (0x00, 1), (0x80, 0), (0x80, 0), (0x81, 0)] := by decide
theorem test_timer_divWrite : (({ small.timer with
    sysclk := 8, tac := 5, tima := 0x10, inPrev := true } : Timer).divReset true).tima = 0x11 := by decide
theorem test_timer_tacWrite : (({ small.timer with
    sysclk := 8, tac := 5, tima := 0x10, inPrev := true } : Timer).writeTac true 1).tima = 0x11 := by decide

/-- An OAM-DMA transfer from 0xC100, whose first three bytes are 1, 2, 3. -/
def copying : State :=
  { State.ram small [(0x100, 1), (0x101, 2), (0x102, 3), (0x103, 4)] with
    dma := { reg := 0xC1, active := true, source := 0xC100, index := 0, sub := 0 } }

theorem test_dma_prefix : ((repeatTick State.dmaTick 12 copying).mem.oam,
    (repeatTick State.dmaTick 12 copying).dma.index) = ([(0, 1), (1, 2), (2, 3)], 3) := by decide
theorem test_joypad_read : (small.storeByte 0xFF00 0x10).busRead 0xFF00 = .value 0xDF := by decide
theorem test_ppu_vblank : (Ppu.tick .dmg 0 [] []
    { small.ppu with ly := 143, dot := 455, mode := .hblank }).vblank = true := by decide
theorem test_noise_lfsr : [lfsrStep false 0x7FFF, lfsrStep true 0x7FFE] = [0x3FFF, 0x7FFF] := by decide

/-! ## Every statement's hypotheses are met

One theorem a statement, under its name: concrete states and operands that meet its hypotheses, clause by
clause, at the ends of the ranges they name. -/

/-- `small` with bytes of a program at 0x0100. -/
def prog (bytes : Store) : State := small.withMem { small.mem with rom := bytes }

/-- `small` with an OAM-DMA transfer active, with channel 3 on, and as a CGB. -/
def dmaOn : State := { small with dma := { small.dma with active := true } }
def waveOn : State := { small with apu := { small.apu with ch3 := { small.apu.ch3 with on := true, dacOn := true } } }
def asCgb : State := { small with model := .cgb }

/-- A store to 0xFF4F, a register of the CGB alone. -/
def cgbStore : State := { (prog [(0x100, 0x12)]).setReg16 .de 0xFF4F with model := .cgb }

/-- A read that gives a value, a drawn value, and a refusal. -/
theorem reads_value : ReadsAs (small.setReg16 .hl 0xC000) 0xC000 0x00 (small.setReg16 .hl 0xC000) :=
  .inl ⟨by decide, rfl⟩
theorem reads_drawn : ReadsAs (small.setReg16 .hl 0xFEFF) 0xFEFF (Config.freeByte 0)
    { small.setReg16 .hl 0xFEFF with draws := 1 } := .inr ⟨by decide, rfl, rfl⟩
theorem reads_refused : asCgb.busRead 0xFF4F = .refused (.cgbRegister 0xFF4F) := by decide

/-- A write that is not refused, and one refused for each reason. -/
theorem writes_none : small.writeRefusal 0xC000 0xFF = none := by decide
theorem writes_dma : dmaOn.writeRefusal 0xFEFF 0 = some (.dmaBusConflict 0xFEFF) := by decide
theorem writes_wave : waveOn.writeRefusal 0xFF30 0 = some (.waveRamWhilePlaying 0xFF30) ∧
    waveOn.writeRefusal 0xFF3F 0 = some (.waveRamWhilePlaying 0xFF3F) := by decide
theorem writes_cgb : asCgb.writeRefusal 0xFF4F 0 = some (.cgbRegister 0xFF4F) := by decide

theorem witness_DecodeOfEncode : (Instr.jrE (-128)).wellFormed = true ∧
    (Instr.ldHlSpE 127).wellFormed = true ∧ Instr.bit7Mhl.wellFormed = true := by decide
theorem witness_EncodeOfDecode : decode [0x18, 0x80, 0x55] = .ok (.jrE (-128), [0x55]) := by decide
theorem witness_LengthFromFirstByte : (opcodeEntry 0xC3).length = 3 ∧
    decode [0xC3, 0x34, 0x12, 0x55] = .ok (.jpNn 0x1234, [0x55]) ∧
    decode [0xC3, 0x34] = .error (.missingOperand 0xC3) ∧
    decode [0x00] = .ok (.nop, []) := by decide

theorem witness_StepRunsDecoded :
    (FetchedFrom 0 small (encode .nop) small ∧ ∃ t, exec .nop { small with stepCost := 0 } = .next t) ∧
    (FetchedFrom 0 (prog [(0x100, 0xD3)]) (encode .invalidD3) (prog [(0x100, 0xD3)]) ∧
      ∃ f, exec .invalidD3 { prog [(0x100, 0xD3)] with stepCost := 0 } = .fault f) ∧
    (FetchedFrom 0 cgbStore (encode .ldMdeA)
        cgbStore ∧
      ∃ q, exec .ldMdeA { cgbStore with stepCost := 0 } =
        .refused q) :=
  ⟨⟨⟨_, .inl ⟨by decide, rfl⟩, rfl⟩, _, rfl⟩, ⟨⟨_, .inl ⟨by decide, rfl⟩, rfl⟩, _, rfl⟩,
    ⟨_, .inl ⟨by decide, rfl⟩, rfl⟩, _, rfl⟩
theorem witness_StepRunsDecoded_state : Instr.nop.wellFormed = true ∧ small.fault = none ∧
    small.cpu.stopped = false ∧ small.cpu.halted = false ∧ small.cpu.ime = false := by decide

/-- Halted with IME clear and a request pending; halted with none; stopped. -/
def halted (iflag : BitVec 5) : State :=
  (irq false iflag 0x1F).withCpu { (irq false iflag 0x1F).cpu with halted := true }
def stopped : State := small.withCpu { small.cpu with stopped := true }

theorem witness_HaltedAndStoppedSteps :
    (FetchedFrom 0 (halted 1) (encode .nop) (halted 1) ∧ (halted 1).cpu.halted = true ∧
      (halted 1).ints.pending ≠ 0 ∧ (halted 1).cpu.ime = false ∧
      ∃ t, exec .nop { halted 1 with cpu := { (halted 1).cpu with halted := false }, stepCost := 4 } =
        .next t) ∧
    ((halted 0).cpu.halted = true ∧ (halted 0).ints.pending = 0 ∧ (halted 0).cpu.stopped = false) ∧
    stopped.cpu.stopped = true ∧ stopped.fault = none :=
  ⟨⟨⟨_, .inl ⟨by decide, rfl⟩, rfl⟩, by decide, by decide, by decide, _, rfl⟩, by decide, by decide⟩

theorem witness_InterruptDispatch :
    ((irq true 0x10 0x1F).cpu.ime = true ∧ (irq true 0x10 0x1F).ints.pending.getLsbD 4 = true ∧
      (∀ j, j < 4 → (irq true 0x10 0x1F).ints.pending.getLsbD j = false)) ∧
    (∃ u, Pushes (irq true 0x1F 0x1F) (irq true 0x1F 0x1F).cpu.pc u) ∧
    PushRefused { irq true 1 1 with dma := dmaOn.dma } (irq true 1 1).cpu.pc (.dmaBusConflict 0xCFFF) :=
  ⟨by decide, ⟨_, by decide, by decide, rfl⟩, .inl (by decide)⟩

theorem witness_IllegalOpcodeFaults :
    ReadsAs (prog [(0x100, 0xFD)]) 0x0100 (IllegalOp.fd).code (prog [(0x100, 0xFD)]) ∧
    (prog [(0x100, 0xFD)]).cpu.halted = false ∧ (prog [(0x100, 0xFD)]).cpu.ime = false ∧
    (prog [(0x100, 0xFD)]).cpu.stopped = false ∧ (prog [(0x100, 0xFD)]).fault = none ∧
    (let s := { halted 1 with mem := (prog [(0x100, 0xD3)]).mem }
     ReadsAs s 0x0100 (IllegalOp.d3).code s ∧ s.cpu.halted = true ∧ s.ints.pending ≠ 0 ∧
      s.cpu.ime = false ∧ s.cpu.stopped = false ∧ s.fault = none) :=
  ⟨.inl ⟨by decide, rfl⟩, by decide, by decide, by decide, by decide, .inl ⟨by decide, rfl⟩, by decide⟩
theorem witness_OnlyIllegalOpcodesFault :
    ({ small with fault := some (.invalidOpcode 0xD3 0) } : State).fault = some (.invalidOpcode 0xD3 0) ∧
    (prog [(0x100, 0xD3)]).fault = none ∧
    step (prog [(0x100, 0xD3)]) = .fault (.invalidOpcode 0xD3 0x0100) := ⟨rfl, rfl, rfl⟩

theorem witness_StepCost : ∃ t, step small = .next t := ⟨_, rfl⟩
theorem witness_StepKeepsLegal : ∃ t, step small = .next t := ⟨_, rfl⟩
theorem witness_StepKeepsLegal_state : small.legal = true := by decide +kernel

theorem witness_RefusalsAreTheSpecs :
    exec .ldMdeA ((dmaOn).setReg16 .de 0xFEFF) = .refused (.dmaBusConflict 0xFEFF) ∧
    exec .ldAMde (asCgb.setReg16 .de 0xFF4F) = .refused (.cgbRegister 0xFF4F) ∧
    exec .ldMdeA (waveOn.setReg16 .de 0xFF30) = .refused (.waveRamWhilePlaying 0xFF30) ∧
    step { prog [(0x100, 0xC5)] with model := .cgb, cpu := { small.cpu with sp := 0xFF50 } } =
      .refused (.cgbRegister 0xFF4F) ∧
    asCgb.writeRefusal 0xFF02 0x82 = some (.cgbRegister 0xFF02) ∧ asCgb.writeRefusal 0xFF02 0x81 = none ∧
    asCgb.busRead 0xFF77 = .refused (.cgbRegister 0xFF77) ∧ asCgb.busRead 0xFF75 = .value 0xFF :=
  ⟨rfl, rfl, rfl, rfl, rfl, rfl, rfl, rfl⟩
theorem witness_EveryInstructionCompletes : (∀ o : IllegalOp, Instr.ldMhliA ≠ .illegal o) ∧
    small.model ≠ .cgb ∧ small.dma.active = false ∧ small.apu.ch3.on = false :=
  ⟨by intro o; cases o <;> decide, by decide, by decide, by decide⟩
theorem witness_ControlWriters : (∃ t, exec .nop small = .next t) ∧ (∃ t, exec .halt small = .next t) ∧
    (∃ t, exec .reti small = .next t) ∧ ∃ t, exec (.stop 0) small = .next t :=
  ⟨⟨_, rfl⟩, ⟨_, rfl⟩, ⟨_, rfl⟩, _, rfl⟩

theorem witness_LoadFromMemory : (∃ s v u, ReadsAs s (wordOf (s.reg8 .h) (s.reg8 .l)) v u) ∧
    ReadsAs small 0x0000 0 small ∧ ReadsAs small 0xFFFF 0 small ∧
    (∃ q, asCgb.busRead 0xFF4F = .refused q) :=
  ⟨⟨small.setReg16 .hl 0xC000, _, _, reads_value⟩, .inl ⟨by decide, rfl⟩, .inl ⟨by decide, rfl⟩, _,
    reads_refused⟩
theorem witness_StoreByte : small.writeRefusal 0x0000 1 = none ∧ small.writeRefusal 0xFFFF 1 = none ∧
    dmaOn.writeRefusal 0xFEFF 0 = some (.dmaBusConflict 0xFEFF) := by decide
theorem witness_LoadStoreMove :
    ((small.setReg16 .hl 0xFFFF).writeRefusal (small.setReg16 .hl 0xFFFF).hl
      ((small.setReg16 .hl 0xFFFF).reg8 .a) = none) ∧
    (dmaOn.setReg16 .hl 0x8000).writeRefusal (dmaOn.setReg16 .hl 0x8000).hl 1 =
      some (.dmaBusConflict 0x8000) ∧
    (asCgb.setReg16 .hl 0xFF4F).busRead (asCgb.setReg16 .hl 0xFF4F).hl =
      .refused (.cgbRegister 0xFF4F) ∧
    ReadsAs (small.setReg16 .hl 0xFEFF) (small.setReg16 .hl 0xFEFF).hl (Config.freeByte 0)
      { small.setReg16 .hl 0xFEFF with draws := 1 } :=
  ⟨by decide, by decide, by decide, reads_drawn⟩
theorem witness_StoreStackPointer :
    (small.writeRefusal 0xFFFF (loByte small.cpu.sp) = none ∧
      (small.storeByte 0xFFFF (loByte small.cpu.sp)).writeRefusal (0xFFFF + 1) (hiByte small.cpu.sp) =
        none) ∧
    dmaOn.writeRefusal 0x8000 (loByte dmaOn.cpu.sp) = some (.dmaBusConflict 0x8000) ∧
    (waveOn.writeRefusal 0xFF2F (loByte waveOn.cpu.sp) = none ∧
      (waveOn.storeByte 0xFF2F (loByte waveOn.cpu.sp)).writeRefusal (0xFF2F + 1) (hiByte waveOn.cpu.sp) =
        some (.waveRamWhilePlaying 0xFF30)) := by decide
theorem witness_StackOffset : (-128 : Int) ≤ -128 ∧ (-128 : Int) ≤ 127 ∧ (127 : Int) ≤ 127 := by decide
theorem witness_PushPair : (∃ u, Pushes (small.setSp 0x0001) 0xABCD u) ∧
    PushRefused (dmaOn.setSp 0xD000) 0xABCD (.dmaBusConflict 0xCFFF) ∧
    PushRefused (waveOn.setSp 0xFF41) 0xABCD (.waveRamWhilePlaying 0xFF3F) :=
  ⟨⟨_, by decide, by decide, rfl⟩, .inl (by decide), .inr ⟨by decide, by decide⟩⟩
theorem witness_PopPair : ReadsWord (small.setSp 0xFFFF) 0xFFFF 0x0000 (small.setSp 0xFFFF) :=
  ⟨_, .inl ⟨by decide, rfl⟩, .inl ⟨by decide, rfl⟩⟩

theorem witness_AluResultAndFlags : Operand small (some .l) (small.reg8 .l) small ∧
    Operand (small.setReg16 .hl 0xC000) none 0x00 (small.setReg16 .hl 0xC000) ∧
    Operand (small.setReg16 .hl 0xFEFF) none (Config.freeByte 0)
      { small.setReg16 .hl 0xFEFF with draws := 1 } :=
  ⟨.reg .l, .mem _ _ reads_value, .mem _ _ reads_drawn⟩
theorem witness_IncDecByte : Operand (small.setReg16 .hl 0xC000) none 0x00 (small.setReg16 .hl 0xC000) ∧
    (∃ w, PutsBack (small.setReg16 .hl 0xC000) (small.setReg16 .hl 0xC000) none (0x00 + 1) w) ∧
    PutsBack small small (some .a) 0xFF small ∧
    (Operand (waveOn.setReg16 .hl 0xFF30) none (Config.freeByte 0)
        { waveOn.setReg16 .hl 0xFF30 with draws := 1 } ∧
      ∀ v, ({ waveOn.setReg16 .hl 0xFF30 with draws := 1 } : State).writeRefusal
        (waveOn.setReg16 .hl 0xFF30).hl v = some (.waveRamWhilePlaying 0xFF30)) :=
  ⟨.mem _ _ reads_value, ⟨_, by decide, rfl⟩, rfl, .mem _ _ (.inr ⟨by decide, rfl, rfl⟩), fun _ => rfl⟩
theorem witness_RotateAccumulator : (Instr.rra = Instr.rra ∧ (0x1F : Byte) = 0x1F ∧ ShiftOp.rr = .rr) ∧
    (shiftMeaning .rr 0x01 1).1 = 0x80 := by decide
theorem witness_RotateShift : Operand small (some .b) (small.reg8 .b) small ∧
    (∀ op : ShiftOp, ∃ res : Byte, res.toNat = (shiftMeaning op 0x81 1).1) ∧
    (∃ w, PutsBack (small.setReg16 .hl 0xC000) (small.setReg16 .hl 0xC000) none 0x00 w) ∧
    ∀ v, ({ waveOn.setReg16 .hl 0xFF3F with draws := 1 } : State).writeRefusal
        (waveOn.setReg16 .hl 0xFF3F).hl v = some (.waveRamWhilePlaying 0xFF3F) :=
  ⟨.reg .b, fun op => ⟨BitVec.ofNat 8 (shiftMeaning op 0x81 1).1, by cases op <;> decide⟩,
    ⟨_, by decide, rfl⟩, fun _ => rfl⟩
theorem witness_BitOperations : Operand (small.setReg16 .hl 0xC000) none 0x00 (small.setReg16 .hl 0xC000) ∧
    (∃ w, PutsBack (small.setReg16 .hl 0xC000) (small.setReg16 .hl 0xC000) none 0x80 w) ∧
    Operand small (some .a) (small.reg8 .a) small ∧
    ∀ v, ({ waveOn.setReg16 .hl 0xFF3F with draws := 1 } : State).writeRefusal
        (waveOn.setReg16 .hl 0xFF3F).hl v = some (.waveRamWhilePlaying 0xFF3F) :=
  ⟨.mem _ _ reads_value, ⟨_, by decide, rfl⟩, .reg .a, fun _ => rfl⟩

theorem witness_Calls : (∃ u, Pushes (small.setSp 0xD000) (small.cpu.pc + 3) u) ∧
    (∃ u, Pushes (small.setSp 0xD000) (small.cpu.pc + 1) u) ∧
    small.cpu.flags.holds .z = true ∧ small.cpu.flags.holds .nz = false ∧ small.cpu.haltBug = false ∧
    PushRefused (dmaOn.setSp 0xD000) (dmaOn.cpu.pc + 3) (.dmaBusConflict 0xCFFF) ∧
    PushRefused (dmaOn.setSp 0xD000) (dmaOn.cpu.pc + 1) (.dmaBusConflict 0xCFFF) :=
  ⟨⟨_, by decide, by decide, rfl⟩, ⟨_, by decide, by decide, rfl⟩, by decide, by decide, by decide,
    .inl (by decide), .inl (by decide)⟩
theorem witness_Returns : ReadsWord (small.setSp 0xC000) 0xC000 0x0000 (small.setSp 0xC000) ∧
    small.cpu.flags.holds .z = true ∧ small.cpu.flags.holds .nz = false :=
  ⟨⟨_, .inl ⟨by decide, rfl⟩, .inl ⟨by decide, rfl⟩⟩, by decide, by decide⟩
theorem witness_RefusedReads :
    (asCgb.setReg16 .hl 0xFF4F).busRead (asCgb.setReg16 .hl 0xFF4F).hl = .refused (.cgbRegister 0xFF4F) ∧
    (asCgb.setSp 0xFF4F).busRead (asCgb.setSp 0xFF4F).cpu.sp = .refused (.cgbRegister 0xFF4F) ∧
    ((asCgb.setSp 0xFF4E).busRead 0xFF4E = .value 0xFF ∧
      (asCgb.setSp 0xFF4E).busRead (0xFF4E + 1) = .refused (.cgbRegister 0xFF4F)) := by decide

theorem witness_MemoryFrame : small.mem.wf = true ∧ (∃ t, exec .ldMdeA (small.setReg16 .de 0xC000) = .next t) ∧
    storedAt (small.setReg16 .de 0xC000) .ldMdeA = [0xC000] ∧
    (small.setReg16 .de 0xC000).plainAt 0xC000 = true ∧
    (small.setReg16 .de 0xC000).sameCell 0xC000 0xC001 = false ∧
    (∃ t, exec (.stop 0) small = .next t) ∧ storedAt small (.stop 0) = [] :=
  ⟨by decide, ⟨_, rfl⟩, rfl, by decide, by decide, ⟨_, rfl⟩, rfl⟩
theorem witness_OpenStoreReadsBack : small.mem.wf = true ∧
    [0x8000, 0x9FFF, 0xC000, 0xDFFF, 0xE000, 0xFDFF, 0xFE00, 0xFE9F, 0xFF80, 0xFFFE, 0xFFFF].all small.openAt =
      true ∧ dmaOn.openAt 0xFF80 = true := by decide

/-- A PPU that is on: in mode 3, which closes VRAM and OAM. -/
def drawing : State :=
  { small with
    enable := { small.enable with ppu := true }
    ppu := { small.ppu with lcdOn := true, mode := .transfer, dot := 100 } }

theorem witness_IgnoredStores : drawing.busTaken 0x8000 = false ∧ drawing.vramBlocked = true ∧
    drawing.oamBlocked = true ∧ small.cart.ramTarget 0xA000 = .closed ∧
    small.cart.ramTarget 0xBFFF = .closed ∧ ioReg small.model 0xFF03 = .unmapped ∧
    ioReg small.model 0xFF7F = .unmapped := by decide +kernel
theorem witness_StoreTouchesOneDevice : (0x7FFF : Word).toNat < 0x8000 ∧ 0xFF04 ≤ (0xFF04 : Word).toNat ∧
    (0xFF07 : Word).toNat ≤ 0xFF07 ∧ (0xFF26 : Word).toNat ≤ 0xFF26 ∧ 0xFF30 ≤ (0xFF30 : Word).toNat ∧
    (0xFF3F : Word).toNat ≤ 0xFF3F ∧ (0xFF4B : Word) ≠ 0xFF46 ∧ (0xFF4B : Word).toNat ≤ 0xFF4B := by decide

/-- A selected seconds register of an MBC3 with a clock, RAM enabled. -/
def clockOpen : State :=
  { small with cart := { small.cart with mapper := .mbc3 ⟨true, 1, 8, false, ⟨1, 2, 3, 4, false, true⟩,
    ⟨0, 0, 0, 0, false, false⟩, 77, true⟩ } }

theorem witness_StoreTouchesOneDevice_clauses : small.apu.power = true ∧ (0x40 : Byte).getLsbD 7 = false ∧
    ({ small.apu with power := false } : Apu).power = false ∧ (0x80 : Byte).getLsbD 7 = true ∧
    (clockOpen.storeByte 0xA000 0xFF).cart.mapper =
      .mbc3 ⟨true, 1, 8, false, ⟨63, 2, 3, 4, false, true⟩, ⟨0, 0, 0, 0, false, false⟩, 0, true⟩ := by decide
theorem witness_MemoryMap : small.dma.active = false ∧
    (small.enable.ppu && small.ppu.lcdOn && small.ppu.mode == .transfer) = false ∧
    (small.enable.ppu && small.ppu.lcdOn &&
      (small.ppu.mode == .oamScan || small.ppu.mode == .transfer)) = false ∧
    [0x0000, 0x3FFF, 0x4000, 0x7FFF, 0x8000, 0x9FFF, 0xC000, 0xCFFF, 0xD000, 0xDFFF, 0xE000, 0xFDFF, 0xFE00,
      0xFE9F, 0xFF80, 0xFFFE, 0xFFFF].all (fun a => small.busRead a == .value 0) = true ∧
    small.busRead 0xA000 = .value 0xFF ∧ small.busRead 0xBFFF = .value 0xFF ∧
    small.busRead 0xFF01 = .value 0x00 ∧ small.busRead 0xFF4B = .value 0x00 ∧
    small.busRead 0xFF30 = .value 0x00 ∧ small.busRead 0xFF3F = .value 0x00 ∧
    waveOn.busRead 0xFF3F = .drawn ∧ small.busRead 0xFF70 = .value 0xFF := by decide +kernel

theorem witness_DmaBusGate : dmaOn.dma.active = true ∧ (0xFEFF : Word).toNat < 0xFF00 ∧
    0xFF00 ≤ (0xFF00 : Word).toNat := by decide
theorem witness_DmaCopiesPrefix : copying.mem.wf = true ∧ copying.dma.active = true ∧
    copying.dma.index = 0 ∧ copying.dma.sub = 0 ∧ 160 ≤ 160 := by decide
theorem witness_TimerCounts :
    let t : Timer := { small.timer with sysclk := 0, tima := 0xFE, tac := 5, inPrev := false }
    t.legal = true ∧ t.reload = 0 ∧ t.tac.getLsbD 2 = true ∧
      t.tima.toNat + (t.sysclk.toNat % timerPeriod t.tac + 31) / timerPeriod t.tac ≤ 255 := by decide
theorem witness_TimerOverflow : overflowing.legal = true ∧ overflowing.reload = 0 ∧
    overflowing.tac.getLsbD 2 = true ∧ overflowing.tima = 0xFF ∧
    (overflowing.sysclk.toNat + 1) % timerPeriod overflowing.tac = 0 := by decide
theorem witness_TimerWrites : small.timer.legal = true ∧ overflowing.legal = true := by decide
theorem witness_SerialTransfer :
    let x : Serial := small.serial.writeSc 0x81
    x.active = true ∧ x.internal = true ∧ x.bits = 0 ∧ x.clock = 0 ∧ x.peerBits = [] ∧ 8 ≤ 8 := by decide

/-- An external-clock transfer with a peer: a bit at master cycle 5 (R492). -/
def clocked : Serial :=
  { small.serial.writeSc 0x80 with sb := 0x41, peerBits := [⟨false, true⟩], peerEdges := [5] }

theorem witness_SerialTransfer_external : clocked.active = true ∧ clocked.internal = false ∧ clocked.bits < 8 ∧
    4 ∉ clocked.peerEdges ∧ 5 ∈ clocked.peerEdges ∧ small.serial.active = false ∧
    (clocked.tick 5).1.sb = 0x82 := by decide
/-- The PPU one dot before the end of mode 3 of line 143 (R533). -/
def lastDot : Ppu := { small.ppu with ly := 143, dot := 251, mode := .transfer, lycMatch := false }

theorem witness_PpuFrame : small.ppu.legal = true ∧ small.ppu.lcdOn = true ∧ lastDot.legal = true ∧
    lastDot.lcdOn = true ∧ lastDot.mode = .transfer ∧ (lastDot.tick .dmg 0 [] []).ppu.mode = .hblank := by
  decide +kernel
theorem witness_PpuOff : ({ small.ppu with lcdOn := false } : Ppu).lcdOn = false ∧
    small.enable.ppu = false := by decide
theorem witness_SpritePriority :
    [spriteAt [] 0, spriteAt [] 1, spriteAt [] 39].Pairwise (fun a b => a.index < b.index) ∧
    15 < 16 ∧ 7 < 8 ∧ 143 + 16 = 144 + 15 ∧ 159 + 8 = 160 + 7 := ⟨by decide, by simp⟩

/-- VRAM and OAM of the worked composition of R559: tile 0 row 0 is 0x55, 0x33, tile 1 is all ones. -/
def pictureVram : Store := [(0, 0x55), (1, 0x33), (16, 0xFF), (17, 0xFF)]

/-- As R559: LCDC 0x93, BGP and OBP0 0xE4. -/
def picture : Ppu := { small.ppu with lcdc := 0x93, bgp := 0xE4, obp0 := 0xE4 }

/-- The shades of the first eight columns of line 0. -/
def firstShades (oam : Store) (p : Ppu) : List Nat :=
  (List.range 8).map (fun x => p.mix pictureVram (p.selectSprites oam 0) x 0)

/-- 64_ppu.md R559. -/
theorem test_composition :
    firstShades [] picture = [0, 1, 2, 3, 0, 1, 2, 3] ∧
    firstShades [(0, 16), (1, 8), (2, 1)] picture = [3, 3, 3, 3, 3, 3, 3, 3] ∧
    firstShades [(0, 16), (1, 8), (2, 1), (3, 0x80)] picture = [3, 1, 2, 3, 3, 1, 2, 3] := by
  decide +kernel
theorem witness_ApuSamples : small.apu.legal = true := by decide
theorem witness_ApuPowerOff : small.apu.power = true ∧ (0x7F : Byte).getLsbD 7 = false := by decide
theorem witness_ApuTrigger : small.apu.power = true ∧ (0x80 : Byte).getLsbD 7 = true := by decide

/-- A blank image of a cartridge type. -/
def image (type : Byte) : RomImage := ⟨32768, [(0x147, type)]⟩

/-- What `load` gives for it. -/
def loaded (type : Byte) : Except LoadFailure State :=
  load (image type) .dmg ⟨true, true, true, true, true⟩ LaunchParams.default

theorem witness_MapperControl : (0x7FFF : Word).toNat < 0x8000 ∧ small.cart.mapper = .none ∧
    (mapperOf 0x01).map (·.1) = some (.mbc1 ⟨false, 1, 0, false⟩) ∧
    (mapperOf 0x05).map (·.1) = some (.mbc2 ⟨false, 1⟩) ∧
    (mapperOf 0x1C).map (·.1) = some (.mbc5 ⟨false, 1, 0, true⟩) ∧
    (mapperOf 0x0F).map (·.1) = some (Mapper.mbc3Reset true) := by decide
theorem witness_CartridgeBanks : 0xA000 ≤ (0xA000 : Word).toNat ∧ (0xBFFF : Word).toNat < 0xC000 := by decide

/-- An MBC3 one master cycle before a second ends, one second before the day counter wraps. -/
def midnight : Mbc3 := ⟨true, 1, 8, false, ⟨59, 59, 23, 511, false, false⟩, Rtc.zero, 4194303, true⟩

theorem witness_RtcCounts : midnight.rtc.halt = false ∧ midnight.sub + 1 = 4194304 ∧
    midnight.rtc.sec.toNat < 60 ∧ midnight.rtc.min.toNat < 60 ∧ midnight.rtc.hour.toNat < 24 ∧
    60 ≤ (63 : BitVec 6).toNat ∧ 24 ≤ (31 : BitVec 5).toNat ∧
    midnight.clockTick.rtc = ⟨0, 0, 0, 0, false, true⟩ := by decide
theorem witness_LoadChecks : (image 0x1E).length = 32768 * 2 ^ ((image 0x1E).header 0x148).toNat ∧
    ((image 0x1E).header 0x149).toNat ≤ 5 := by decide
theorem witness_ResetRegisters : ∃ s, loaded 0x01 = .ok s := ⟨_, rfl⟩
theorem witness_LoadedMachineLegal : LaunchParams.default.sampleRate ≤ 4194304 ∧
    LaunchParams.default.ppuLy < 154 ∧ LaunchParams.default.ppuDot < 456 ∧
    LaunchParams.default.rtc.sub < 4194304 ∧ LaunchParams.default.initialMemory.wf = true ∧
    LaunchParams.default.cartRamImage = none ∧ Store.wf [(0, 1)] = true ∧
    ((image 0x10).header 0x147 = 0x10) ∧ Store.wf (image 0x10).bytes = true ∧
    (∃ s, loaded 0x00 = .ok s) :=
  ⟨by decide, by decide, by decide, by decide, by decide, rfl, by decide, by decide, by decide, _, rfl⟩

/-- 20_memory.md R202: the clock saved from one run is the clock of the next. -/
theorem test_rtc_loaded :
    (match load (image 0x0F) .dmg ⟨true, true, true, true, true⟩
        { LaunchParams.default with rtc := ⟨⟨1, 2, 3, 4, false, true⟩, Rtc.zero, 5⟩ } with
      | .ok s => savedRtc s
      | .error _ => none) = some ⟨⟨1, 2, 3, 4, false, true⟩, Rtc.zero, 5⟩ := by decide
theorem witness_HostOperations : (∃ t, clockM 1 small = (t, 4, .done)) ∧ ∃ t, clocks 3 small = (t, 4, .done) :=
  ⟨⟨_, rfl⟩, _, rfl⟩

end Sys2Proof.Tests
end

/-! Loading a cartridge (20_memory.md R170-R178, 66_orchestrator.md R703): what `load` answers, the
mappers a load starts with, and the machine it leaves. -/

namespace Sys2Proof.Machine

/-! ## What a load answers -/

/-- A load succeeds exactly when the header parses, and gives the reset state of that cartridge. -/
theorem load_ok_iff {rom : RomImage} {mode : ConsoleMode} {en : Enables} {p : LaunchParams} {s : State} :
    load rom mode en p = .ok s ↔
      ∃ c, parseHeader rom = .ok c ∧ s = State.resetFor c rom mode en p := by
  unfold load
  cases parseHeader rom <;> simp [eq_comm]

/-- Rules R175-R177: an accepted header names a cartridge by its three codes. -/
theorem parseHeader_ok {rom : RomImage} {c : Cartridge} (h : parseHeader rom = .ok c) :
    ∃ banks ram m, romBanksOf (rom.header 0x148) = some banks ∧ ramSizeOf (rom.header 0x149) = some ram ∧
      mapperOf (rom.header 0x147) = some m ∧ c = cartridgeOf banks ram m := by
  unfold parseHeader at h
  split at h
  · cases h
  · split at h
    · cases h
    · rename_i banks hbanks
      split at h
      · cases h
      · split at h
        · cases h
        · rename_i ram hram
          split at h
          · cases h
          · rename_i m hm
            cases h
            exact ⟨banks, ram, m, hbanks, hram, hm, rfl⟩

/-- Rule R172: every size code the table knows gives at least two banks. -/
theorem two_le_of_romBanksOf {code : Byte} {banks : Nat} (h : romBanksOf code = some banks) : 2 ≤ banks := by
  unfold romBanksOf at h
  split at h
  · cases h
    have := Nat.one_le_two_pow (n := code.toNat)
    omega
  · cases h

@[simp] theorem cartridgeOf_mapper (banks : Nat) (ram : Nat × Nat) (m : Mapper × Bool) :
    (cartridgeOf banks ram m).mapper = m.1 := by
  unfold cartridgeOf; split <;> rfl

@[simp] theorem cartridgeOf_romBanks (banks : Nat) (ram : Nat × Nat) (m : Mapper × Bool) :
    (cartridgeOf banks ram m).romBanks = banks := by
  unfold cartridgeOf; split <;> rfl

/-! ## The mappers a load starts with -/

/-- Rule R178: the mappers at reset; the index says whether the cartridge has the MBC3 clock (R174). -/
inductive Mapper.AtReset : Bool → Mapper → Prop
  | none : AtReset false .none
  | mbc1 : AtReset false mbc1Reset
  | mbc2 : AtReset false mbc2Reset
  | mbc3 (hasRtc : Bool) : AtReset hasRtc (mbc3Reset hasRtc)
  | mbc5 (rumble : Bool) : AtReset false (mbc5Reset rumble)

/-- Rule R174: the cartridge types with the MBC3 clock. -/
def hasClock (code : Byte) : Bool := code.toNat == 0x0F || code.toNat == 0x10

theorem hasClock_iff (code : Byte) : hasClock code = true ↔ code = 0x0F ∨ code = 0x10 := by
  simp [hasClock, ← BitVec.toNat_inj]

/-- Rules R174, R178: a supported type code gives a mapper at reset, with a clock where the type has one. -/
theorem mapperOf_atReset {code : Byte} {m : Mapper × Bool} (h : mapperOf code = some m) :
    Mapper.AtReset (hasClock code) m.1 := by
  unfold mapperOf at h
  unfold hasClock
  generalize code.toNat = n at h ⊢
  split at h <;> cases h <;> constructor

namespace Mapper.AtReset

theorem legal {b : Bool} {m : Mapper} (h : m.AtReset b) : m.legal = true := by
  cases h <;> rfl

/-- Rules R179, R184, R187, R195, R199: at reset, clock loaded or not, bank 0 is mapped low and bank 1
high. -/
theorem banks {b : Bool} {c : Cartridge} (h : c.mapper.AtReset b) (hc : 2 ≤ c.romBanks) (p : LaunchParams) :
    (c.resetFor p).lowBank = 0 ∧ (c.resetFor p).highBank = 1 := by
  obtain ⟨n, ramSize, ramBanks, battery, m⟩ := c
  have one : 1 % n = 1 := Nat.mod_eq_of_lt hc
  cases h with
  | none => exact ⟨rfl, rfl⟩
  | mbc1 => exact ⟨rfl, one⟩
  | mbc2 => exact ⟨rfl, one⟩
  | mbc3 => cases b <;> exact ⟨rfl, one⟩
  | mbc5 rumble => exact ⟨rfl, one⟩

/-- Rules R202, R722: the clock saved after a load is the one loaded, on a cartridge that has one. -/
theorem savedRtc {b : Bool} {m : Mapper} (h : m.AtReset b) {s : State} {r : RtcImage}
    (hs : s.cart.mapper = m.withRtc r) : savedRtc s = if b then some r else .none := by
  unfold Machine.savedRtc
  rw [hs]
  cases h with
  | mbc3 => cases b <;> rfl
  | none => rfl
  | mbc1 => rfl
  | mbc2 => rfl
  | mbc5 rumble => rfl

end Mapper.AtReset

/-- With banks 0 and 1 mapped, an address below 0x8000 is its own offset in the ROM image. -/
theorem Cartridge.romOffset_of_banks {c : Cartridge} (hlow : c.lowBank = 0) (hhigh : c.highBank = 1)
    (a : Word) : c.romOffset a = a.toNat := by
  unfold Cartridge.romOffset
  rw [hlow, hhigh]
  split <;> omega

/-- What an accepted header says of the cartridge: a mapper at reset, with a clock where the type has
one, and at least two banks. -/
theorem parseHeader_atReset {rom : RomImage} {c : Cartridge} (h : parseHeader rom = .ok c) :
    c.mapper.AtReset (hasClock (rom.header 0x147)) ∧ 2 ≤ c.romBanks := by
  obtain ⟨banks, ram, m, hbanks, -, hm, rfl⟩ := parseHeader_ok h
  exact ⟨by simpa using mapperOf_atReset hm, by simpa using two_le_of_romBanksOf hbanks⟩

/-! ## The machine a load leaves -/

/-- Rules R35-R39: in every mode the CPU starts running, with no HALT bug armed. -/
theorem Cpu.legal_resetFor (mode : ConsoleMode) (checksum : Byte) :
    (Cpu.resetFor mode checksum).legal = true := by
  cases mode <;> rfl

/-- Rule R461: a disabled timer that saw no signal is legal whatever the divider holds. -/
theorem Timer.legal_of_disabled {t : Timer} (hreload : t.reload ≤ 4) (htac : t.tac.getLsbD 2 = false)
    (hprev : t.inPrev = false) : t.legal = true :=
  (Timer.legal_iff t).2 ⟨hreload, by rw [hprev, Timer.input, htac, Bool.false_and]⟩

/-- Rules R122, R531: the PPU starts in the mode of the phase it is given, on a blank picture. -/
theorem Ppu.legal_resetFor {p : LaunchParams} (hly : p.ppuLy < 154) (hdot : p.ppuDot < 456) :
    (Ppu.resetFor p).legal = true := by
  have hlen : (Ppu.resetFor p).mode3Len = 172 := rfl
  have hon : State.reset.ppu.lcdOn = State.reset.ppu.lcdc.getLsbD 7 := by decide
  have hrows : ∀ row ∈ (Ppu.resetFor p).framebuffer, row.length = 160 := fun row hrow => by
    rw [List.eq_of_mem_replicate hrow, List.length_replicate]
  exact (Ppu.legal_iff _).2 ⟨hly, hdot, hlen.ge, hlen.le.trans (by decide), hon, fun _ => rfl,
    fun hoff => absurd hoff Bool.noConfusion, List.length_replicate, hrows⟩

/-- Rule R8: a sample rate in its range keeps the APU legal. -/
theorem Apu.legal_sampleRate {a : Apu} {rate : Nat} (ha : a.legal = true)
    (hrate : rate ≤ Config.clockFrequency) : ({ a with sampleRate := rate } : Apu).legal = true := by
  obtain ⟨h1, h2, h3, h4, hsweep, hcounter, hstep, -, hacc, hpower⟩ := (Apu.legal_iff a).1 ha
  exact (Apu.legal_iff _).2 ⟨h1, h2, h3, h4, hsweep, hcounter, hstep, hrate, hacc, hpower⟩

theorem Memory.wf_resetFor (rom : RomImage) (p : LaunchParams) : (Memory.resetFor rom p).wf = true :=
  (Memory.wf_iff _).2 ⟨Store.wf_normalize _, Store.wf_normalize _, Store.wf_normalize _,
    Store.wf_normalize _, Store.wf_normalize _, Store.wf_normalize _, Store.wf_nil⟩

/-- Every device of a loaded machine is in its range, when the launch parameters are and the header's
mapper is. -/
theorem State.legal_resetFor {c : Cartridge} {p : LaunchParams} (rom : RomImage) (mode : ConsoleMode)
    (en : Enables) (hc : c.mapper.legal = true) (hrate : p.sampleRate ≤ Config.clockFrequency)
    (hly : p.ppuLy < 154) (hdot : p.ppuDot < 456) (hsub : p.rtc.sub < Config.clockFrequency) :
    (State.resetFor c rom mode en p).legal = true := by
  have htac : State.reset.timer.tac.getLsbD 2 = false := by decide
  have hapu : State.reset.apu.legal = true := by decide
  exact (State.legal_iff _).2 ⟨Cpu.legal_resetFor mode _,
    { timer := Timer.legal_of_disabled (Nat.zero_le 4) htac rfl
      serial := rfl
      dma := rfl
      ppu := Ppu.legal_resetFor hly hdot
      apu := Apu.legal_sampleRate hapu hrate
      cart := Mapper.legal_withRtc p.rtc hsub c.mapper hc
      mem := Memory.wf_resetFor rom p }⟩

/-- A read below 0x8000 with OAM-DMA idle is a read of the ROM. -/
theorem State.busRead_rom (s : State) (hdma : s.dma.active = false) {a : Word} (ha : a.toNat < 0x8000) :
    s.busRead a = .value (romRead s.cart s.mem a) := by
  simp [State.busRead, State.busTaken, hdma, State.regionRead, State.target, ha]

/-- Log 15: a canonical image is the ROM of the loaded machine, read from address 0 up. -/
theorem State.resetFor_rom {c : Cartridge} {rom : RomImage} (mode : ConsoleMode) (en : Enables)
    (p : LaunchParams) (hc : parseHeader rom = .ok c) (hrom : Store.wf rom.bytes = true) :
    (State.resetFor c rom mode en p).mem.rom = rom.bytes ∧ ∀ a : Word, a.toNat < 0x8000 →
      (State.resetFor c rom mode en p).busRead a = .value (Store.read rom.bytes a.toNat) := by
  have hmem : (State.resetFor c rom mode en p).mem.rom = rom.bytes := Store.normalize_eq _ hrom
  obtain ⟨hreset, hbanks⟩ := parseHeader_atReset hc
  obtain ⟨hlow, hhigh⟩ := hreset.banks hbanks p
  refine ⟨hmem, fun a ha => ?_⟩
  have hoffset : (State.resetFor c rom mode en p).cart.romOffset a = a.toNat :=
    Cartridge.romOffset_of_banks hlow hhigh a
  rw [State.busRead_rom _ rfl ha, romRead, hmem, hoffset]

/-- Rules R123, R202: canonical memories of the parameters are those of the loaded machine. -/
theorem Memory.resetFor_stores (rom : RomImage) (p : LaunchParams) (h : p.initialMemory.wf = true) :
    (Memory.resetFor rom p).vram = p.initialMemory.vram ∧
      (Memory.resetFor rom p).wram = p.initialMemory.wram ∧
      (Memory.resetFor rom p).oam = p.initialMemory.oam ∧
      (Memory.resetFor rom p).hram = p.initialMemory.hram ∧
      (p.cartRamImage = none → (Memory.resetFor rom p).cartRam = p.initialMemory.cartRam) := by
  obtain ⟨-, hvram, hwram, hoam, hhram, hcart, -⟩ := (Memory.wf_iff _).1 h
  refine ⟨Store.normalize_eq _ hvram, Store.normalize_eq _ hwram, Store.normalize_eq _ hoam,
    Store.normalize_eq _ hhram, fun hnone => ?_⟩
  rw [Memory.resetFor, hnone]
  exact Store.normalize_eq _ hcart

/-- Rule R202, log 23: a canonical RAM image is kept whole, whatever the cartridge has cells for. -/
theorem Memory.resetFor_cartRam (rom : RomImage) {p : LaunchParams} {image : Store}
    (hp : p.cartRamImage = some image) (h : Store.wf image = true) :
    (Memory.resetFor rom p).cartRam = image := by
  rw [Memory.resetFor, hp]
  exact Store.normalize_eq _ h

/-- Rules R174, R202, log 22: the clock of a loaded machine is that of the parameters, on the cartridge
types that have one. -/
theorem State.savedRtc_resetFor {c : Cartridge} {rom : RomImage} (mode : ConsoleMode) (en : Enables)
    (p : LaunchParams) (hc : parseHeader rom = .ok c) :
    savedRtc (State.resetFor c rom mode en p) =
      if rom.header 0x147 = 0x0F ∨ rom.header 0x147 = 0x10 then some p.rtc else none := by
  rw [(parseHeader_atReset hc).1.savedRtc (r := p.rtc) rfl]
  simp only [hasClock_iff]

/-- Log 3: `State.reset` is the machine of the blank 32 KiB image. -/
theorem load_blank :
    load ⟨32768, []⟩ .dmg ⟨true, true, true, true, true⟩ LaunchParams.default = .ok State.reset := rfl

/-- Settles O59: the legality, the ROM, the memories and the clock by the lemmas about
`State.resetFor`; every other parameter is copied into its field. -/
theorem loadedMachineLegal : Obligations.LoadedMachineLegal := by
  refine ⟨fun rom mode en p s hrate hly hdot hsub hload => ?_, load_blank⟩
  obtain ⟨c, hc, rfl⟩ := load_ok_iff.1 hload
  exact ⟨State.legal_resetFor rom mode en (parseHeader_atReset hc).1.legal hrate hly hdot hsub,
    State.resetFor_rom mode en p hc, rfl, rfl, rfl, rfl, rfl, rfl, rfl, rfl, rfl, rfl, rfl, rfl, rfl, rfl,
    rfl, Memory.resetFor_stores rom p, fun _ hp => Memory.resetFor_cartRam rom hp,
    State.savedRtc_resetFor mode en p hc⟩

end Sys2Proof.Machine

/-! The state (10_state.md): the machine after reset, which accesses are refused, and what instructions do
to the hidden control state. -/

namespace Sys2Proof.Machine

/-! ## The machine after reset (10_state.md R120-R122) -/

/-- Rule R120: H and C of the DMG's F tell a nonzero header checksum. -/
theorem Flags.toByte_resetDmg (checksum : Byte) :
    Flags.toByte ⟨true, false, checksum != 0, checksum != 0⟩ = if checksum = 0 then 0x80 else 0xB0 := by
  by_cases h : checksum = 0
  · rw [if_pos h, bne_eq_false_iff_eq.2 h]; rfl
  · rw [if_neg h, bne_iff_ne.2 h]; rfl

/-- Settles O58: a load that succeeds leaves `State.resetFor`, whose CPU is the mode's row of the reset
table. -/
theorem resetRegisters : Obligations.ResetRegisters := by
  intro rom mode en p s h
  obtain ⟨c, -, rfl⟩ := load_ok_iff.1 h
  cases mode with
  | dmg =>
    have regs : State.reset.cpu.reg8 .a = 0x01 ∧ State.reset.cpu.reg16 .bc = 0x0013 ∧
        State.reset.cpu.reg16 .de = 0x00D8 ∧ State.reset.cpu.reg16 .hl = 0x014D := by decide
    obtain ⟨ha, hbc, hde, hhl⟩ := regs
    exact ⟨⟨ha, hbc, hde, hhl, Flags.toByte_resetDmg _⟩, rfl, rfl, rfl, rfl, rfl, rfl, rfl, rfl, rfl⟩
  | sgb =>
    have regs : let c := Cpu.resetFor .sgb 0
        c.reg8 .a = 0x01 ∧ c.reg16 .bc = 0x0014 ∧ c.reg16 .de = 0x0000 ∧ c.reg16 .hl = 0xC060 ∧
          c.flags.toByte = 0x00 := by decide
    exact ⟨regs, rfl, rfl, rfl, rfl, rfl, rfl, rfl, rfl, rfl⟩
  | cgb =>
    have regs : let c := Cpu.resetFor .cgb 0
        c.reg8 .a = 0x11 ∧ c.reg16 .bc = 0x0000 ∧ c.reg16 .de = 0xFF56 ∧ c.reg16 .hl = 0x000D ∧
          c.flags.toByte = 0x80 := by decide
    exact ⟨regs, rfl, rfl, rfl, rfl, rfl, rfl, rfl, rfl, rfl⟩

/-- Settles O12: the reset state is the load of the blank image, and every loaded machine is legal. -/
theorem resetLegal : Obligations.ResetLegal :=
  (loadedMachineLegal.1 _ _ _ _ _ (by decide) (by decide) (by decide) (by decide) load_blank).1

/-! ## Where the I/O registers are (10_state.md R44, R88, R93) -/

/-- Rule R44: what holds of each of the 128 addresses of the I/O page holds on the page. -/
theorem ioPage_forall {P : Word → Prop} (h : ∀ k : Fin 128, P (BitVec.ofNat 16 (0xFF00 + k))) {a : Word}
    (hlo : 0xFF00 ≤ a.toNat) (hhi : a.toNat < 0xFF80) : P a := by
  have ha : BitVec.ofNat 16 (0xFF00 + (a.toNat - 0xFF00)) = a := by
    rw [Nat.add_sub_cancel' hlo, BitVec.ofNat_toNat, BitVec.setWidth_eq]
  exact ha ▸ h ⟨a.toNat - 0xFF00, by omega⟩

/-- Rule R88: the register is a byte of wave RAM. -/
def IoReg.isWave : IoReg → Bool
  | .wave _ => true
  | _ => false

section
variable {a : Word} (m : ConsoleMode) (hlo : 0xFF00 ≤ a.toNat) (hhi : a.toNat < 0xFF80)
include hlo hhi

theorem ioReg_eq_sc_iff : ioReg m a = .sc ↔ a = 0xFF02 :=
  ioPage_forall (P := fun a => ioReg m a = .sc ↔ a = 0xFF02) (by cases m <;> decide +kernel) hlo hhi

theorem ioReg_eq_cgbOnly_iff : ioReg m a = .cgbOnly ↔ m = .cgb ∧ a ∈ cgbOnlyAddresses :=
  ioPage_forall (P := fun a => ioReg m a = .cgbOnly ↔ m = .cgb ∧ a ∈ cgbOnlyAddresses)
    (by cases m <;> decide +kernel) hlo hhi

theorem ioReg_isWave_iff : (ioReg m a).isWave = true ↔ 0xFF30 ≤ a.toNat ∧ a.toNat ≤ 0xFF3F :=
  ioPage_forall (P := fun a => (ioReg m a).isWave = true ↔ 0xFF30 ≤ a.toNat ∧ a.toNat ≤ 0xFF3F)
    (by cases m <;> decide +kernel) hlo hhi

theorem ioReg_eq_dma_iff : ioReg m a = .dma ↔ a = 0xFF46 :=
  ioPage_forall (P := fun a => ioReg m a = .dma ↔ a = 0xFF46) (by cases m <;> decide +kernel) hlo hhi

theorem ioReg_eq_nr34_iff : ioReg m a = .nr34 ↔ a = 0xFF1E :=
  ioPage_forall (P := fun a => ioReg m a = .nr34 ↔ a = 0xFF1E) (by cases m <;> decide +kernel) hlo hhi

end

/-- Rule R143: the addresses of the I/O registers. -/
theorem State.target_eq_io_iff {s : State} {a : Word} {r : IoReg} :
    s.target a = .io r ↔ (0xFF00 ≤ a.toNat ∧ a.toNat < 0xFF80) ∧ ioReg s.model a = r := by
  by_cases hpage : 0xFF00 ≤ a.toNat ∧ a.toNat < 0xFF80
  · have ht : s.target a = .io (ioReg s.model a) := by
      simp (disch := omega) only [State.target, if_neg, if_pos]
    simp [ht, hpage]
  · refine iff_of_false (fun h => ?_) fun h => hpage h.1
    unfold State.target at h
    dsimp only at h
    split_ifs at h
    omega

/-- Rule R93: the CGB-only registers lie on the I/O page. -/
theorem ioPage_of_cgbOnly {a : Word} (h : a ∈ cgbOnlyAddresses) : 0xFF00 ≤ a.toNat ∧ a.toNat < 0xFF80 := by
  have hall : cgbOnlyAddresses.all (fun a => 0xFF00 ≤ a.toNat ∧ a.toNat < 0xFF80) := by decide
  simpa using List.all_eq_true.1 hall a h

/-! ## Which accesses are refused (10_state.md R47, R93, 63_oam_dma.md R515, 65_apu.md R645) -/

/-- Rule R515: the OAM-DMA unit holds the bus below 0xFF00 while a transfer is active. -/
theorem State.busTaken_iff {s : State} {a : Word} :
    s.busTaken a = true ↔ s.dma.active = true ∧ a.toNat < 0xFF00 := by
  simp [State.busTaken]

/-- Rules R93, R157: an I/O read is refused at a CGB-only register, and nowhere else. -/
theorem State.ioRead_refused_iff {s : State} {a : Word} {r : IoReg} {q : Refusal} :
    s.ioRead a r = .refused q ↔ r = .cgbOnly ∧ q = .cgbRegister a := by
  cases r
  case cgbOnly => simp [State.ioRead, eq_comm]
  case wave k => simp only [State.ioRead]; split <;> simp
  all_goals simp [State.ioRead]

/-- Rules R93, R145: a region's read is refused where its I/O read is. -/
theorem State.regionRead_refused_iff {s : State} {a : Word} {q : Refusal} :
    s.regionRead a = .refused q ↔ s.target a = .io .cgbOnly ∧ q = .cgbRegister a := by
  unfold State.regionRead
  cases h : s.target a
  case io r => simp [State.ioRead_refused_iff]
  all_goals simp

/-- Rules R93, R145: a CPU read is refused at a CGB-only register in CGB mode, and nowhere else. -/
theorem State.busRead_refused_iff {s : State} {a : Word} {q : Refusal} :
    s.busRead a = .refused q ↔ s.model = .cgb ∧ a ∈ cgbOnlyAddresses ∧ q = .cgbRegister a := by
  have hcgb : s.target a = .io .cgbOnly ↔ s.model = .cgb ∧ a ∈ cgbOnlyAddresses := by
    rw [State.target_eq_io_iff]
    constructor
    · rintro ⟨⟨hlo, hhi⟩, h⟩
      exact (ioReg_eq_cgbOnly_iff _ hlo hhi).1 h
    · intro h
      obtain ⟨hlo, hhi⟩ := ioPage_of_cgbOnly h.2
      exact ⟨⟨hlo, hhi⟩, (ioReg_eq_cgbOnly_iff _ hlo hhi).2 h⟩
  unfold State.busRead
  split
  · rename_i htaken
    have hbelow := (State.busTaken_iff.1 htaken).2
    exact iff_of_false (by simp) fun ⟨_, hmem, _⟩ => (ioPage_of_cgbOnly hmem).1.not_gt hbelow
  · rw [State.regionRead_refused_iff, hcgb, and_assoc]

/-- Rules R47, R93, R645: the refusal of an I/O write, in the order of `refusedWrite`. -/
theorem State.ioRefusal_eq (s : State) (a : Word) (r : IoReg) (v : Byte) :
    s.ioRefusal a r v =
      if r = .cgbOnly ∨ s.model = .cgb ∧ r = .sc ∧ v.getLsbD 1 = true then some (.cgbRegister a)
      else if s.apu.ch3.on = true ∧ r.isWave = true then some (.waveRamWhilePlaying a)
      else none := by
  cases r <;> simp [State.ioRefusal, IoReg.isWave, State.isCgb]

/-- Rules R47, R93, R645: an I/O write is refused as the addresses say. -/
theorem State.ioRefusal_ioReg (s : State) {a : Word} (v : Byte) (hlo : 0xFF00 ≤ a.toNat)
    (hhi : a.toNat < 0xFF80) : s.ioRefusal a (ioReg s.model a) v = refusedWrite s a v := by
  have hbus : ¬ (s.dma.active = true ∧ a.toNat < 0xFF00) := by omega
  simp only [State.ioRefusal_eq, ioReg_eq_sc_iff _ hlo hhi, ioReg_eq_cgbOnly_iff _ hlo hhi,
    ioReg_isWave_iff _ hlo hhi, refusedWrite, if_neg hbus, ← and_or_left]

/-- Off the I/O page OAM-DMA alone refuses a write. -/
theorem refusedWrite_of_not_ioPage (s : State) {a : Word} (v : Byte)
    (h : ¬ (0xFF00 ≤ a.toNat ∧ a.toNat < 0xFF80)) :
    refusedWrite s a v =
      if s.dma.active = true ∧ a.toNat < 0xFF00 then some (.dmaBusConflict a) else none := by
  have hcgb : ¬ (s.model = .cgb ∧ (a ∈ cgbOnlyAddresses ∨ a = 0xFF02 ∧ v.getLsbD 1 = true)) := by
    rintro ⟨-, hmem | ⟨rfl, -⟩⟩
    · exact h (ioPage_of_cgbOnly hmem)
    · exact h (by decide)
  have hwave : ¬ (s.apu.ch3.on = true ∧ 0xFF30 ≤ a.toNat ∧ a.toNat ≤ 0xFF3F) := by omega
  rw [refusedWrite, if_neg hcgb, if_neg hwave]

/-- Rules R47, R93, R515, R645: a CPU write is refused as the spec says. -/
theorem State.writeRefusal_eq (s : State) (a : Word) (v : Byte) :
    s.writeRefusal a v = refusedWrite s a v := by
  unfold State.writeRefusal
  split
  · rename_i h
    rw [refusedWrite, if_pos (State.busTaken_iff.1 h)]
  · rename_i h
    cases ht : s.target a
    case io r =>
      obtain ⟨⟨hlo, hhi⟩, rfl⟩ := State.target_eq_io_iff.1 ht
      exact s.ioRefusal_ioReg v hlo hhi
    all_goals
      have hpage : ¬ (0xFF00 ≤ a.toNat ∧ a.toNat < 0xFF80) := fun hp => by
        cases ht.symm.trans (State.target_eq_io_iff.2 ⟨hp, rfl⟩)
      rw [refusedWrite_of_not_ioPage s v hpage, if_neg (mt State.busTaken_iff.2 h)]

/-! ## What a write opens to refusal (63_oam_dma.md R511, 65_apu.md R608)

An instruction can write twice, and its first write can change what is refused at the second. -/

/-- Rules R602, R608, R611: of the APU registers only NR34 can turn channel 3 on. -/
theorem Apu.write_ch3_on {cgb : Bool} {r : IoReg} {v : Byte} {x : Apu} (hr : r ≠ .nr34)
    (h : (x.write cgb r v).ch3.on = true) : x.ch3.on = true := by
  unfold Apu.write at h
  split_ifs at h
  · unfold Apu.writeNr52 at h
    split_ifs at h
    · cases h
    · exact h
    · exact h
  · cases r
    case nr30 => exact (Bool.and_eq_true_iff.1 h).1
    case nr34 => exact absurd rfl hr
    case nr14 =>
      simp only [Apu.writeOn, Apu.writeNr14] at h
      split at h <;> exact h
    all_goals exact h
  · unfold Apu.writeOff at h
    split at h
    · exact h
    · split at h <;> exact h

/-- Rule R511: of the I/O registers only DMA touches the OAM-DMA unit. -/
theorem State.ioWrite_dma_of_ne (s : State) {r : IoReg} (v : Byte) (hr : r ≠ .dma) :
    (s.ioWrite r v).dma = s.dma := by
  cases r
  case dma => exact absurd rfl hr
  all_goals rfl

/-- Rule R608: of the I/O registers only NR34 can turn channel 3 on. -/
theorem State.ioWrite_ch3_on {s : State} {r : IoReg} {v : Byte} (hr : r ≠ .nr34)
    (h : (s.ioWrite r v).apu.ch3.on = true) : s.apu.ch3.on = true := by
  cases r
  case nr10 | nr11 | nr12 | nr13 | nr14 | nr21 | nr22 | nr23 | nr24 | nr30 | nr31 | nr32 | nr33 |
      nr34 | nr41 | nr42 | nr43 | nr44 | nr50 | nr51 | nr52 => exact Apu.write_ch3_on hr h
  all_goals exact h

/-- Rules R146, R157: a CPU write is an I/O write, or leaves the OAM-DMA unit and the APU alone. -/
theorem State.storeByte_io_or_kept (s : State) (a : Word) (v : Byte) :
    (∃ r, s.target a = .io r ∧ s.storeByte a v = s.ioWrite r v) ∨
      (s.storeByte a v).dma = s.dma ∧ (s.storeByte a v).apu = s.apu := by
  unfold State.storeByte
  cases s.target a
  case io r => exact .inl ⟨r, rfl, rfl⟩
  case vram o | oam o => dsimp only; split <;> exact .inr ⟨rfl, rfl⟩
  all_goals exact .inr ⟨rfl, rfl⟩

/-- Rule R511: a CPU write starts a transfer at 0xFF46 alone. -/
theorem State.storeByte_dma_active {s : State} {a : Word} {v : Byte} (ha : a ≠ 0xFF46)
    (h : (s.storeByte a v).dma.active = true) : s.dma.active = true := by
  obtain ⟨r, ht, hio⟩ | ⟨hdma, -⟩ := s.storeByte_io_or_kept a v
  · obtain ⟨⟨hlo, hhi⟩, rfl⟩ := State.target_eq_io_iff.1 ht
    rwa [hio, s.ioWrite_dma_of_ne v (mt (ioReg_eq_dma_iff _ hlo hhi).1 ha)] at h
  · rwa [hdma] at h

/-- Rule R608: a CPU write turns channel 3 on at 0xFF1E alone. -/
theorem State.storeByte_ch3_on {s : State} {a : Word} {v : Byte} (ha : a ≠ 0xFF1E)
    (h : (s.storeByte a v).apu.ch3.on = true) : s.apu.ch3.on = true := by
  obtain ⟨r, ht, hio⟩ | ⟨-, hapu⟩ := s.storeByte_io_or_kept a v
  · obtain ⟨⟨hlo, hhi⟩, rfl⟩ := State.target_eq_io_iff.1 ht
    rw [hio] at h
    exact State.ioWrite_ch3_on (mt (ioReg_eq_nr34_iff _ hlo hhi).1 ha) h
  · rwa [hapu] at h

/-- What `t` refuses at the address `b`, `s` may refuse too. -/
structure GatesAt (s t : State) (b : Word) : Prop where
  model : t.model = s.model
  dma : b.toNat < 0xFF00 → t.dma.active = true → s.dma.active = true
  ch3 : 0xFF30 ≤ b.toNat ∧ b.toNat ≤ 0xFF3F → t.apu.ch3.on = true → s.apu.ch3.on = true

namespace GatesAt

variable {s t : State} {b : Word}

/-- A refusal looks at no more than the mode, the OAM-DMA unit and the APU. -/
theorem of_same (hmodel : t.model = s.model) (hdma : t.dma = s.dma) (hapu : t.apu = s.apu) :
    GatesAt s t b := ⟨hmodel, fun _ h => hdma ▸ h, fun _ h => hapu ▸ h⟩

theorem withCpu (h : GatesAt s t b) (c : Cpu) : GatesAt s (t.withCpu c) b := ⟨h.model, h.dma, h.ch3⟩

theorem draw (h : GatesAt s t b) (n : Nat) : GatesAt s { t with draws := n } b := ⟨h.model, h.dma, h.ch3⟩

/-- After a write the addresses beside it are refused as before: DMA and NR34 lie beside neither the
memory below 0xFF00 nor wave RAM. -/
theorem storeByte (h : GatesAt s t b) {a : Word} (v : Byte) (hab : b = a + 1 ∨ b = a - 1) :
    GatesAt s (t.storeByte a v) b where
  model := (t.storeByte_model a v).trans h.model
  dma hb hactive := h.dma hb <| State.storeByte_dma_active (fun ha => by
    subst ha
    obtain rfl | rfl := hab <;> exact absurd hb (by decide)) hactive
  ch3 hb hon := h.ch3 hb <| State.storeByte_ch3_on (fun ha => by
    subst ha
    obtain rfl | rfl := hab <;> exact absurd hb (by decide)) hon

/-- Rules R47, R93, R515, R645: a write that is refused in `t` is refused as the spec allows in `s`. -/
theorem write_allowed (h : GatesAt s t b) {v : Byte} {q : Refusal} (hq : t.writeRefusal b v = some q) :
    RefusalAllowed s q := by
  rw [State.writeRefusal_eq] at hq
  unfold refusedWrite at hq
  split_ifs at hq with hdma hcgb hwave <;> cases hq
  · exact ⟨h.dma hdma.2 hdma.1, hdma.2⟩
  · exact ⟨h.model ▸ hcgb.1, hcgb.2.imp_right And.left⟩
  · exact ⟨h.ch3 hwave.2 hwave.1, hwave.2⟩

/-- Rule R93: a read that is refused in `t` is refused as the spec allows in `s`. -/
theorem read_allowed (h : GatesAt s t b) {q : Refusal} (hq : t.busRead b = .refused q) :
    RefusalAllowed s q := by
  obtain ⟨hcgb, hmem, rfl⟩ := State.busRead_refused_iff.1 hq
  exact ⟨h.model ▸ hcgb, .inl hmem⟩

end GatesAt

/-- A refusal the spec allows in `t` is one it allows in `s`, when `s` may refuse all that `t` refuses. -/
theorem RefusalAllowed.of_gates {s t : State} (hg : ∀ b, GatesAt s t b) {q : Refusal}
    (h : RefusalAllowed t q) : RefusalAllowed s q := by
  cases q with
  | dmaBusConflict a => exact ⟨(hg a).dma h.2 h.1, h.2⟩
  | cgbRegister a => exact ⟨(hg a).model ▸ h.1, h.2⟩
  | waveRamWhilePlaying a => exact ⟨(hg a).ch3 h.2 h.1, h.2⟩
  | notModelled name => exact h

/-! ## The hidden control state (10_state.md R35-R39) -/

/-- Rules R35-R39: the hidden control state: IME, the EI delay, halted, the HALT bug and stopped. -/
def State.control (s : State) : Bool × Bool × Bool × Bool × Bool :=
  (s.cpu.ime, s.cpu.imeDelay, s.cpu.halted, s.cpu.haltBug, s.cpu.stopped)

section
variable (s : State)

@[simp] theorem State.setReg8_control (r : Reg8) (v : Byte) : (s.setReg8 r v).control = s.control := by
  cases r <;> rfl
@[simp] theorem State.setReg16_control (p : Reg16) (v : Word) : (s.setReg16 p v).control = s.control := by
  cases p <;> rfl
@[simp] theorem State.setStackPair_control (p : StackPair) (v : Word) :
    (s.setStackPair p v).control = s.control := by cases p <;> rfl
@[simp] theorem State.setFlags_control (f : Flags) : (s.setFlags f).control = s.control := rfl
@[simp] theorem State.setSp_control (v : Word) : (s.setSp v).control = s.control := rfl
@[simp] theorem State.setPc_control (v : Word) : (s.setPc v).control = s.control := rfl
@[simp] theorem State.jumpBy_control (e : Int) : (s.jumpBy e).control = s.control := rfl
@[simp] theorem State.setAccumulator_control (x : Flagged) : (s.setAccumulator x).control = s.control := rfl
@[simp] theorem State.aluWith_control (o : AluOp) (v : Byte) : (aluWith o v s).control = s.control := rfl
@[simp] theorem State.updateReg_control (r : Reg8) (f : Byte → Flags → Flagged) :
    (updateReg r f s).control = s.control := by cases r <;> rfl
@[simp] theorem State.draws_control (n : Nat) : State.control { s with draws := n } = s.control := rfl
@[simp] theorem State.storeByte_control (a : Word) (v : Byte) : (s.storeByte a v).control = s.control := by
  simp [State.control]

/-- Rule R221: an instruction starts with the HALT bug used up and the rest of the control state kept. -/
@[simp] theorem State.startInstr_control (len cost : Nat) : (s.startInstr len cost).control =
    (s.cpu.ime, s.cpu.imeDelay, s.cpu.halted, false, s.cpu.stopped) := rfl

end

/-! ## How an operation ends -/

/-- A completed `r` leaves `P`; a refusal of `r` is one the spec gives in `s`. -/
def Ends (s : State) (P : State → Prop) : Result → Prop
  | .next u => P u
  | .fault _ => True
  | .refused q => RefusalAllowed s q

namespace Ends

variable {s t : State} {P : State → Prop}

theorem next {r : Result} {u : State} (h : Ends s P r) (hr : r = .next u) : P u := by
  subst hr; exact h

theorem refused {r : Result} {q : Refusal} (h : Ends s P r) (hr : r = .refused q) : RefusalAllowed s q := by
  subst hr; exact h

theorem of_gates {r : Result} (h : Ends t P r) (hg : ∀ b, GatesAt s t b) : Ends s (fun _ => True) r := by
  cases r with
  | next u => trivial
  | fault f => trivial
  | refused q => exact RefusalAllowed.of_gates hg h

theorem chain {r : Result} {k : State → Result} (h : Ends s (fun u => Ends s P (k u)) r) :
    Ends s P (chain r k) := by
  cases r <;> exact h

theorem writeByte {a : Word} {v : Byte} (hg : GatesAt s t a) (hP : P (t.storeByte a v)) :
    Ends s P (writeByte a v t) := by
  unfold Machine.writeByte
  split
  · exact hg.write_allowed ‹_›
  · exact hP

theorem withRead {a : Word} {k : Byte → State → Result} (hg : GatesAt s t a)
    (hk : ∀ v n, Ends s P (k v { t with draws := n })) : Ends s P (withRead a t k) := by
  unfold Machine.withRead
  split
  · exact hk _ t.draws
  · exact hk _ _
  · exact hg.read_allowed ‹_›

/-! The operand forms: none refuses more than the spec, and each keeps the control state of the state
`t` it starts from. -/

section
variable (hg : ∀ b, GatesAt s t b) (hP : ∀ u, u.control = t.control → P u)
include hg hP

theorem loadReg (r : Reg8) (a : Word) : Ends s P (loadReg r a t) :=
  .withRead (hg _) fun _ _ => hP _ (by simp)

theorem loadAMove (d : Word) : Ends s P (loadAMove d t) :=
  .withRead (hg _) fun _ _ => hP _ (by simp)

theorem storeAMove (d : Word) : Ends s P (storeAMove d t) :=
  .chain <| .writeByte (hg _) <| hP _ (by simp)

theorem storeWord (a v : Word) : Ends s P (storeWord a v t) :=
  .chain <| .writeByte (hg _) <| .writeByte ((hg _).storeByte _ (.inl rfl)) <| hP _ (by simp)

theorem pushWord (v : Word) : Ends s P (pushWord v t) := by
  refine .chain <| .writeByte ((hg _).withCpu _) <|
    .writeByte (.withCpu (.storeByte ((hg _).withCpu _) _ (.inr ?_)) _) <| hP _ (by simp)
  simp

theorem aluAtHl (o : AluOp) : Ends s P (aluAtHl o t) :=
  .withRead (hg _) fun _ _ => hP _ (by simp)

theorem updateAtHl (f : Byte → Flags → Flagged) : Ends s P (updateAtHl f t) :=
  .withRead (hg _) fun _ n => .chain <| .writeByte ((hg _).draw n) <| hP _ (by simp)

theorem testBitAtHl (b : Field3) : Ends s P (testBitAtHl b t) :=
  .withRead (hg _) fun _ _ => hP _ (by simp)

theorem modifyAtHl (f : Byte → Byte) : Ends s P (modifyAtHl f t) :=
  .withRead (hg _) fun _ n => .writeByte ((hg _).draw n) <| hP _ (by simp)

theorem callTo (target : Word) : Ends s P (callTo target t) :=
  .chain <| .pushWord hg (fun _ hu => hP _ (by simpa using hu)) _

end

theorem popWord {k : Word → State → Result} (hg : ∀ b, GatesAt s t b)
    (hk : ∀ v u, u.control = t.control → Ends s P (k v u)) : Ends s P (popWord t k) :=
  .withRead (hg _) fun _ n => .withRead ((hg _).draw n |>.withCpu _) fun _ _ => hk _ _ rfl

theorem returnTo (hg : ∀ b, GatesAt s t b) (hP : ∀ u, u.control = t.control → P u) :
    Ends s P (returnTo t) :=
  .popWord hg fun _ _ hu => hP _ (by simpa using hu)

end Ends

/-! ## Every instruction -/

/-- Rules R35-R39: what the instruction `i` does to the hidden control state. -/
def ControlOf (i : Instr) (s t : State) : Prop :=
  (i ≠ .di → i ≠ .reti → t.cpu.ime = s.cpu.ime) ∧
    (i ≠ .di → i ≠ .ei → t.cpu.imeDelay = s.cpu.imeDelay) ∧
    (i ≠ .halt → t.cpu.halted = s.cpu.halted ∧ t.cpu.haltBug = false) ∧
    ((∀ n, i ≠ .stop n) → t.cpu.stopped = s.cpu.stopped)

/-- An instruction that leaves the control state as its start left it. -/
theorem ControlOf.of_started {i : Instr} {s u : State}
    (h : u.control = (s.cpu.ime, s.cpu.imeDelay, s.cpu.halted, false, s.cpu.stopped)) : ControlOf i s u := by
  simp only [State.control, Prod.mk.injEq] at h
  obtain ⟨hime, hdelay, hhalted, hbug, hstopped⟩ := h
  exact ⟨fun _ _ => hime, fun _ _ => hdelay, fun _ => ⟨hhalted, hbug⟩, fun _ => hstopped⟩

theorem ControlOf.halt (s : State) (len cost : Nat) :
    ControlOf .halt s (s.startInstr len cost).enterHalt := by
  unfold State.enterHalt
  split <;> exact ⟨fun _ _ => rfl, fun _ _ => rfl, fun h => absurd rfl h, fun _ => rfl⟩

/-- Every instruction ends as rules R35-R39, R47, R93, R515 and R645 say: the families that read or write
memory by their operand form; the rest answer a next state and touch the CPU's registers alone. -/
theorem exec_ends (i : Instr) (s : State) : Ends s (ControlOf i s) (exec i s) := by
  have hg (len cost : Nat) (b : Word) : GatesAt s (s.startInstr len cost) b := .of_same rfl rfl rfl
  have hP {i : Instr} (u : State) := ControlOf.of_started (i := i) (s := s) (u := u)
  apply Instr.byFamily (P := fun i => Ends s (ControlOf i s) (exec i s)) (i := i)
  case h_halt => exact .halt s 1 4
  case h_stop =>
    exact fun n => ⟨fun _ _ => rfl, fun _ _ => rfl, fun _ => ⟨rfl, rfl⟩, fun h => absurd rfl (h n)⟩
  case h_di => exact ⟨fun h => absurd rfl h, fun h => absurd rfl h, fun _ => ⟨rfl, rfl⟩, fun _ => rfl⟩
  case h_ei => exact ⟨fun _ _ => rfl, fun _ h => absurd rfl h, fun _ => ⟨rfl, rfl⟩, fun _ => rfl⟩
  case h_reti =>
    rw [exec_reti]
    refine .popWord (hg 1 16) fun v u hu => ?_
    obtain ⟨-, hdelay, hhalt, hstop⟩ := ControlOf.of_started (i := .reti) hu
    exact ⟨fun _ h => absurd rfl h, hdelay, hhalt, hstop⟩
  case h_illegal => intro o; rw [exec_illegal]; trivial
  case h_ldMnnSp => exact fun nn => .storeWord (hg _ _) hP _ _
  case h_ret => exact .returnTo (hg _ _) hP
  case h_pushPair => intro p; rw [exec_pushPair]; exact .pushWord (hg _ _) hP _
  case h_popPair =>
    intro p; rw [exec_popPair]; exact .popWord (hg _ _) fun _ _ hu => hP _ (by simpa using hu)
  case h_callNn => exact fun nn => .callTo (hg _ _) hP _
  case h_rstVec => intro y; rw [exec_rstVec]; exact .callTo (hg _ _) hP _
  case h_callCond => intro cc nn; rw [exec_callCond]; split; exacts [.callTo (hg _ _) hP _, hP _ rfl]
  case h_retCond => intro cc; rw [exec_retCond]; split; exacts [.returnTo (hg _ _) hP, hP _ rfl]
  case h_jpCond => intro cc nn; rw [exec_jpCond]; split <;> exact hP _ rfl
  case h_jrCond => intro cc e; rw [exec_jrCond]; split <;> exact hP _ rfl
  case h_bitMem => intro b; rw [exec_bitMem]; exact .testBitAtHl (hg _ _) hP _
  case h_aluMem => intro o; rw [exec_aluMem]; exact .aluAtHl (hg _ _) hP _
  case h_shiftMem | h_incMhl | h_decMhl =>
    intros; simp only [exec_shiftMem, exec_incMhl, exec_decMhl]; exact .updateAtHl (hg _ _) hP _
  case h_resMem | h_setMem =>
    intros; simp only [exec_resMem, exec_setMem]; exact .modifyAtHl (hg _ _) hP _
  case h_ldRegMem | h_ldAMbc | h_ldAMde | h_ldhAMn | h_ldhAMc | h_ldAMnn =>
    intros
    simp only [exec_ldRegMem, exec_ldAMbc, exec_ldAMde, exec_ldhAMn, exec_ldhAMc, exec_ldAMnn]
    exact .loadReg (hg _ _) hP _ _
  case h_ldMemReg | h_ldMbcA | h_ldMdeA | h_ldMhlN | h_ldhMnA | h_ldhMcA | h_ldMnnA =>
    intros
    simp only [exec_ldMemReg, exec_ldMbcA, exec_ldMdeA, exec_ldMhlN, exec_ldhMnA, exec_ldhMcA, exec_ldMnnA]
    exact .writeByte (hg _ _ _) (hP _ (by simp))
  case h_ldAMhli | h_ldAMhld => exact .loadAMove (hg _ _) hP _
  case h_ldMhliA | h_ldMhldA => exact .storeAMove (hg _ _) hP _
  all_goals
    intros
    simp only [exec_ldRegReg, exec_ldRegImm, exec_aluReg, exec_aluImm, exec_incReg, exec_decReg,
      exec_ldPairImm, exec_addHlPair, exec_incPair, exec_decPair, exec_shiftReg, exec_bitReg,
      exec_resReg, exec_setReg, exec_nop, exec_rlca, exec_rrca, exec_jrE, exec_rla, exec_rra,
      exec_daa, exec_cpl, exec_scf, exec_ccf, exec_jpNn, exec_addSpE, exec_jpHl, exec_ldHlSpE,
      exec_ldSpHl]
    exact hP _ (by simp)

/-- Settles O15: `exec_ends` at a completed instruction. -/
theorem controlWriters : Obligations.ControlWriters := fun i s _ h => (exec_ends i s).next h

/-! ## The step -/

namespace Ends

variable {s t : State}

/-- Rule R221: the fetch reads up to three bytes, and what runs sees the draw counter alone changed. -/
theorem fetchThen {P : State → Prop} {k : Instr → State → Result} (hg : ∀ b, GatesAt s t b)
    (hk : ∀ i n, Ends s P (k i { t with draws := n })) : Ends s P (fetchThen t k) := by
  unfold Machine.fetchThen
  refine .withRead (hg _) fun op n => ?_
  dsimp only
  split
  · exact hk _ n
  · exact .withRead ((hg _).draw n) fun _ _ => hk _ _
  · exact .withRead ((hg _).draw n) fun _ m => .withRead ((hg _).draw m) fun _ _ => hk _ _

/-- Rules R425, R690: a dispatch is refused at its push alone, an instruction at its fetch or its meaning. -/
theorem runAwake (hg : ∀ b, GatesAt s t b) : Ends s (fun _ => True) (runAwake t) := by
  unfold Machine.runAwake
  split
  · exact .chain <| .pushWord (fun b => (hg b).withCpu _) (fun _ _ => trivial) _
  · exact .chain <| .fetchThen hg fun i n => (exec_ends i _).of_gates fun b => (hg b).draw n

theorem cpuPhase (s : State) : Ends s (fun _ => True) (cpuPhase s) := by
  unfold Machine.cpuPhase
  dsimp only
  split_ifs
  · trivial
  · exact .runAwake fun _ => .of_same rfl rfl rfl
  · exact .runAwake fun _ => .of_same rfl rfl rfl

end Ends

/-- A step is refused in its CPU phase alone. -/
theorem step_refused {s : State} {q : Refusal} (h : step s = .refused q) : cpuPhase s = .refused q := by
  unfold step runStep at h
  split at h
  · cases h
  · obtain hcpu | ⟨_, -, hnext⟩ := chain_refused.1 h
    · exact hcpu
    · cases hnext

/-- Settles O13: an instruction by its family, a step by its CPU phase, and each single access by its
address. -/
theorem refusalsAreTheSpecs : Obligations.RefusalsAreTheSpecs :=
  ⟨fun i s _ h => (exec_ends i s).refused h, fun s _ h => (Ends.cpuPhase s).refused (step_refused h),
    State.writeRefusal_eq, fun _ _ _ => State.busRead_refused_iff⟩

end Sys2Proof.Machine

/-! The memories (20_memory.md): what an address reaches, what a CPU read and a CPU write do there, the
frame of every instruction, and the cartridge. -/

namespace Sys2Proof.Machine

/-! ## Bit fields as numbers (00_scope.md R9) -/

section
variable {m n : Nat}

/-- Rule R9: a bit field as a number. -/
theorem toNat_field (x : BitVec n) (start len : Nat) :
    (x.extractLsb' start len).toNat = x.toNat / 2 ^ start % 2 ^ len := by
  rw [BitVec.extractLsb'_toNat, Nat.shiftRight_eq_div_pow]

/-- Rule R9: two bit fields side by side as a number. -/
theorem toNat_append_add (x : BitVec m) (y : BitVec n) : (x ++ y).toNat = x.toNat * 2 ^ n + y.toNat := by
  rw [BitVec.toNat_append, Nat.shiftLeft_eq, Nat.mul_comm, ← Nat.two_pow_add_eq_or_of_lt y.isLt]

/-- Rule R9: a value is the number it is read as. -/
theorem eq_ofNat {x : BitVec n} {k : Nat} (h : x.toNat = k) : x = BitVec.ofNat n k := by
  rw [← h, BitVec.ofNat_toNat, BitVec.setWidth_eq]

end

/-! ## Reads that stop an instruction -/

/-- Rules R93, R145: an instruction that reads a refused byte is refused. -/
theorem withRead_refused {α : Type} {s : State} {a : Word} {q : Refusal} (h : s.busRead a = .refused q)
    (k : Byte → State → Answer α) : withRead a s k = .refused q := by
  simp [withRead, h]

/-- Rules R11, R145: a pop is refused where its first read is, or its second after an unrefused first. -/
theorem popWord_refused {s : State} {q : Refusal} (k : Word → State → Result)
    (h : s.busRead s.cpu.sp = .refused q ∨
      (∀ q', s.busRead s.cpu.sp ≠ .refused q') ∧ s.busRead (s.cpu.sp + 1) = .refused q) :
    popWord s k = .refused q := by
  obtain h1 | ⟨h1, h2⟩ := h
  · exact withRead_refused h1 _
  · obtain ⟨lo, u, hu⟩ | ⟨q', hq'⟩ := readsAs_or_refused s s.cpu.sp
    · rw [popWord, withRead_of_readsAs _ hu]
      have hread : (u.setSp (u.cpu.sp + 1)).busRead (u.cpu.sp + 1) = .refused q := by
        rw [hu.state]; exact h2
      exact withRead_refused hread _
    · exact absurd hq' (h1 q')

/-- Settles O35: each of these instructions starts with the refused read, or with a pop that makes it. -/
theorem refusedReads : Obligations.RefusedReads := by
  refine ⟨fun s q o op b h => ?_, fun s q p cc h => ?_⟩
  · have hread (len cost : Nat) (k : Byte → State → Result) :
        withRead (s.startInstr len cost).hl (s.startInstr len cost) k = .refused q :=
      withRead_refused (s := s.startInstr len cost) h k
    rw [exec_aluMem, exec_incMhl, exec_decMhl, exec_shiftMem, exec_bitMem, exec_resMem, exec_setMem]
    exact ⟨hread _ _ _, hread _ _ _, hread _ _ _, hread _ _ _, hread _ _ _, hread _ _ _, hread _ _ _⟩
  · have hpop (len cost : Nat) (k : Word → State → Result) :
        popWord (s.startInstr len cost) k = .refused q := popWord_refused k h
    rw [exec_popPair, exec_ret, exec_reti, exec_retCond]
    exact ⟨hpop _ _ _, hpop _ _ _, hpop _ _ _, fun hcc => (if_pos hcc).trans (hpop _ _ _)⟩

/-! ## What an address reaches (20_memory.md R143, R153) -/

/-- Rule R158: IE is the last address, and no other. -/
theorem State.target_eq_ie_iff {s : State} {a : Word} : s.target a = .ie ↔ a = 0xFFFF := by
  constructor
  · intro h
    unfold State.target at h
    dsimp only at h
    split_ifs at h
    bv_omega
  · rintro rfl
    rfl

section
variable (s : State) {a : Word}

theorem State.target_rom (h : a.toNat < 0x8000) : s.target a = .rom a := by
  simp (disch := omega) only [State.target, if_pos]

theorem State.target_vram (hlo : 0x8000 ≤ a.toNat) (hhi : a.toNat < 0xA000) :
    s.target a = .vram (a.toNat - 0x8000) := by
  simp (disch := omega) only [State.target, if_pos, if_neg]

theorem State.target_cartRam (hlo : 0xA000 ≤ a.toNat) (hhi : a.toNat < 0xC000) : s.target a = .cartRam a := by
  simp (disch := omega) only [State.target, if_pos, if_neg]

theorem State.target_wram (hlo : 0xC000 ≤ a.toNat) (hhi : a.toNat < 0xE000) :
    s.target a = .wram (wramOffset s.model s.svbk a) := by
  simp (disch := omega) only [State.target, if_pos, if_neg]

theorem State.target_echo (hlo : 0xE000 ≤ a.toNat) (hhi : a.toNat < 0xFE00) :
    s.target a = s.target (a - 0x2000) := by
  have hsub : (a - 0x2000).toNat = a.toNat - 0x2000 := by bv_omega
  rw [s.target_wram (a := a - 0x2000) (by omega) (by omega)]
  simp (disch := omega) only [State.target, if_pos, if_neg]

theorem State.target_oam (hlo : 0xFE00 ≤ a.toNat) (hhi : a.toNat < 0xFEA0) :
    s.target a = .oam (a.toNat - 0xFE00) := by
  simp (disch := omega) only [State.target, if_pos, if_neg]

theorem State.target_unusable (hlo : 0xFEA0 ≤ a.toNat) (hhi : a.toNat < 0xFF00) : s.target a = .unusable := by
  simp (disch := omega) only [State.target, if_pos, if_neg]

theorem State.target_hram (hlo : 0xFF80 ≤ a.toNat) (hhi : a.toNat < 0xFFFF) :
    s.target a = .hram (a.toNat - 0xFF80) := by
  simp (disch := omega) only [State.target, if_pos, if_neg]

/-- Rule R145: past the OAM-DMA gate a read is the region's. -/
theorem State.busRead_of_free (h : s.busTaken a = false) : s.busRead a = s.regionRead a := by
  simp [State.busRead, h]

/-- Rule R515: no gate holds an address while no transfer runs. -/
theorem State.busTaken_of_idle (h : s.dma.active = false) (a : Word) : s.busTaken a = false := by
  simp [State.busTaken, h]

/-- Rule R515: the OAM-DMA gate ends at 0xFF00. -/
theorem State.busTaken_of_high (h : 0xFF00 ≤ a.toNat) : s.busTaken a = false := by
  simp [State.busTaken, h]

/-- Rules R157, R515: a read of an I/O register. -/
theorem State.busRead_io {r : IoReg} (h : s.target a = .io r) : s.busRead a = s.ioRead a r := by
  rw [s.busRead_of_free (s.busTaken_of_high (State.target_eq_io_iff.1 h).1.1), State.regionRead, h]

/-- Rules R157, R160: a write of an I/O register. -/
theorem State.storeByte_io {r : IoReg} (h : s.target a = .io r) (v : Byte) :
    s.storeByte a v = s.ioWrite r v := by
  rw [State.storeByte, h]

end

/-- Rules R92, R93: the register is there in every mode. -/
def IoReg.everyMode (r : IoReg) : Bool := r != .svbk && r != .cgbOnly

/-- Rules R44, R91-R93: the CGB's map gives the registers of every mode. -/
theorem State.target_reg (s : State) (a : Word) (r : IoReg) (h : ioReg .cgb a = r := by decide +kernel)
    (hpage : 0xFF00 ≤ a.toNat ∧ a.toNat < 0xFF80 := by decide) (hmode : r.everyMode = true := by decide) :
    s.target a = .io r := by
  refine State.target_eq_io_iff.2 ⟨hpage, ?_⟩
  obtain ⟨hsvbk, hcgb⟩ : r ≠ .svbk ∧ r ≠ .cgbOnly := by simpa [IoReg.everyMode] using hmode
  subst h
  cases s.model with
  | cgb => rfl
  | dmg | sgb => exact if_neg (not_or.2 ⟨hsvbk, hcgb⟩)

/-! ## Ignored writes -/

/-- Rule R201: cartridge RAM that is absent, disabled or not selected keeps what it holds. -/
theorem State.storeByte_cartRam_closed (s : State) {a : Word} (v : Byte) (ht : s.target a = .cartRam a)
    (hclosed : s.cart.ramTarget a = .closed) : s.storeByte a v = s := by
  simp [State.storeByte, ht, cartRamControl, cartRamStore, hclosed]

/-- Settles O38: the address's region, and what it ignores. -/
theorem ignoredStores : Obligations.IgnoredStores := by
  intro s a v hfree
  have hread := s.busRead_of_free hfree
  refine ⟨fun hlo hhi hblocked => ?_, fun hlo hhi hblocked => ?_, fun hlo hhi => ?_,
    fun hlo hhi hclosed => ?_, fun ha => ?_, fun hlo hhi hnone => ?_⟩
  · have ht := s.target_vram hlo hhi
    exact ⟨by simp [State.storeByte, ht, hblocked], by simp [hread, State.regionRead, ht, hblocked]⟩
  · have ht := s.target_oam hlo hhi
    exact ⟨by simp [State.storeByte, ht, hblocked], by simp [hread, State.regionRead, ht, hblocked]⟩
  · have ht := s.target_unusable hlo hhi
    exact ⟨by simp [State.storeByte, ht], by simp [hread, State.regionRead, ht]⟩
  · have ht := s.target_cartRam hlo hhi
    exact ⟨s.storeByte_cartRam_closed v ht hclosed,
      by simp [hread, State.regionRead, ht, cartRamRead, hclosed]⟩
  · subst ha
    have ht := s.target_reg 0xFF44 .ly
    exact ⟨s.storeByte_io ht v, s.busRead_io ht⟩
  · have ht := State.target_eq_io_iff.2 ⟨⟨hlo, hhi⟩, hnone⟩
    exact ⟨s.storeByte_io ht v, s.busRead_io ht⟩

end Sys2Proof.Machine

namespace Sys2Proof.Machine

/-! ## Stores to plain memory (20_memory.md R143-R159, R188) -/

/-- Reading after a write, with the written offset first, as `State.sameCell` compares. -/
theorem Store.read_after_write (m : Store) (h : Store.wf m = true) (a : Nat) (v : Byte) (b : Nat) :
    Store.read (Store.write m a v) b = if a = b then v else Store.read m b := by
  rw [Store.read_write m h, if_congr eq_comm rfl rfl]

/-- Rule R188: a nibble stored in a cell reads back with its high half set. -/
theorem nibble_readBack (v : Byte) : (0xF0 : Byte) ||| v &&& 0x0F = 0xF0 ||| v := by
  ext i hi
  interval_cases i <;> simp

/-- A machine with other memories and another IE: all that a CPU write to plain storage can change. -/
def State.withStorage (s : State) (m : Memory) (ie : Byte) : State :=
  { s with mem := m, ints := { s.ints with ie := ie } }

/-- Rules R143, R188: the byte of storage behind an address, past the gates. -/
def State.stored (s : State) (b : Word) : Byte :=
  match s.target b with
  | .vram o => Store.read s.mem.vram o
  | .wram o => Store.read s.mem.wram o
  | .oam o => Store.read s.mem.oam o
  | .hram o => Store.read s.mem.hram o
  | .cartRam x => cartRamRead s.cart s.mem x
  | .ie => s.ints.ie
  | .rom _ | .unusable | .io _ => 0xFF

section
variable (s : State) (m : Memory) (ie : Byte) (b : Word)

@[simp] theorem State.withStorage_target : (s.withStorage m ie).target b = s.target b := rfl
@[simp] theorem State.withStorage_busTaken : (s.withStorage m ie).busTaken b = s.busTaken b := rfl
@[simp] theorem State.withStorage_mem : (s.withStorage m ie).mem = m := rfl
@[simp] theorem State.withStorage_cart : (s.withStorage m ie).cart = s.cart := rfl

/-- Rules R143, R145: a read sees of other memories and another IE no more than the byte behind its address,
the ROM and wave RAM apart. -/
theorem State.busRead_withStorage (hrom : m.rom = s.mem.rom) (hwave : m.waveRam = s.mem.waveRam)
    (hstored : (s.withStorage m ie).stored b = s.stored b) : (s.withStorage m ie).busRead b = s.busRead b := by
  unfold State.busRead
  refine if_congr Iff.rfl rfl ?_
  unfold State.stored at hstored
  unfold State.regionRead
  rw [State.withStorage_target] at hstored ⊢
  cases hb : s.target b <;> rw [hb] at hstored
  case io r =>
    cases r
    case wave k => exact congrArg (fun w => if s.apu.ch3.on then ReadResult.drawn else .value (Store.read w k)) hwave
    all_goals rfl
  case rom x => exact congrArg (fun w => ReadResult.value (Store.read w (s.cart.romOffset x))) hrom
  case vram o => exact congrArg (fun x => ReadResult.value (if s.vramBlocked then 0xFF else x)) hstored
  case oam o => exact congrArg (fun x => ReadResult.value (if s.oamBlocked then 0xFF else x)) hstored
  case cartRam x | wram o | hram o | ie => exact congrArg ReadResult.value hstored

end

/-- Rules R143, R515: the target lies at 0xFF00 or above, where OAM-DMA does not hold the bus. -/
def Target.high : Target → Bool
  | .io _ | .hram _ | .ie => true
  | .rom _ | .vram _ | .cartRam _ | .wram _ | .oam _ | .unusable => false

theorem State.target_high_iff {s : State} {a : Word} : (s.target a).high = true ↔ 0xFF00 ≤ a.toNat := by
  unfold State.target
  dsimp only
  split_ifs <;> simp [Target.high] <;> omega

/-- Rule R515: whether OAM-DMA holds the bus at an address, by what the address reaches. -/
theorem State.busTaken_eq (s : State) (a : Word) : s.busTaken a = (s.dma.active && !(s.target a).high) := by
  rw [Bool.eq_iff_iff, State.busTaken_iff, Bool.and_eq_true, Bool.not_eq_true', ← Bool.not_eq_true,
    State.target_high_iff, not_le]

/-- Rule R188: what stored value a read of a plain cell of cartridge RAM gives. -/
def RamTarget.readBack : RamTarget → Byte → Byte
  | .nibble _, v => 0xF0 ||| v
  | .closed, v | .byte _, v | .clock _, v => v

section
variable {s : State} {a : Word} (v : Byte)

theorem State.readBack_cartRam {x : Word} (ht : s.target a = .cartRam x) :
    s.readBack a v = (s.cart.ramTarget x).readBack v := by
  unfold State.readBack
  rw [ht]
  dsimp only
  cases s.cart.ramTarget x <;> rfl

/-- A cartridge RAM cell that is plain storage: a byte of a bank, or an MBC2 cell. -/
theorem State.ramTarget_of_plain {x : Word} (ht : s.target a = .cartRam x) (h : s.plainAt a = true) :
    ∃ o, s.cart.ramTarget x = .byte o ∨ s.cart.ramTarget x = .nibble o := by
  simp only [State.plainAt, ht] at h
  cases hr : s.cart.ramTarget x with
  | byte o => exact ⟨o, .inl rfl⟩
  | nibble o => exact ⟨o, .inr rfl⟩
  | closed | clock r => simp [hr] at h

/-- Rules R185, R200: a byte of a bank is never an MBC2 cell. -/
theorem Cartridge.bankByte_ne_nibble (c : Cartridge) (bank : Nat) (x : Word) (p : Nat) :
    c.bankByte bank x ≠ .nibble p := by
  unfold Cartridge.bankByte
  split <;> simp

/-- Rule R188: MBC2 alone has nibble cells, and it has no others. -/
theorem Cartridge.ramTarget_ne_nibble (c : Cartridge) {x : Word} {o : Nat} (hx : c.ramTarget x = .byte o)
    (y : Word) (p : Nat) : c.ramTarget y ≠ .nibble p := by
  unfold Cartridge.ramTarget at hx ⊢
  cases hm : c.mapper with
  | none => exact c.bankByte_ne_nibble _ _ _
  | mbc1 m | mbc5 m => dsimp only; split; exacts [c.bankByte_ne_nibble _ _ _, by simp]
  | mbc2 m => rw [hm] at hx; dsimp only at hx; split at hx <;> cases hx
  | mbc3 m =>
    dsimp only [Cartridge.mbc3Target]
    split_ifs
    · exact c.bankByte_ne_nibble _ _ _
    · split <;> simp
    all_goals simp

/-- Rule R193: a store to a plain cell is no store to the clock. -/
theorem cartRamControl_of_plain {c : Cartridge} {x : Word}
    (h : ∃ o, c.ramTarget x = .byte o ∨ c.ramTarget x = .nibble o) : cartRamControl c x v = c := by
  obtain ⟨o, hx | hx⟩ := h <;> rw [cartRamControl, hx]

/-- A CPU write to plain storage changes the memories and IE alone; wave RAM is none of it. -/
theorem State.storeByte_plain (h : s.plainAt a = true) :
    s.storeByte a v = s.withStorage (s.storeByte a v).mem (s.storeByte a v).ints.ie ∧
      (s.storeByte a v).mem.waveRam = s.mem.waveRam := by
  unfold State.storeByte
  cases ht : s.target a with
  | cartRam x =>
    exact ⟨by simp [cartRamControl_of_plain v (State.ramTarget_of_plain ht h), State.withStorage], rfl⟩
  | vram o | oam o => dsimp only; split <;> exact ⟨rfl, rfl⟩
  | wram o | hram o | ie => exact ⟨rfl, rfl⟩
  | rom x | io r | unusable => simp [State.plainAt, ht] at h

/-- Rule R158: of the stores to plain storage the one at 0xFFFF sets IE. -/
theorem State.storeByte_ie (h : s.plainAt a = true) :
    (s.storeByte a v).ints.ie = if a = 0xFFFF then v else s.ints.ie := by
  by_cases hie : s.target a = .ie
  · rw [if_pos (State.target_eq_ie_iff.1 hie), State.storeByte, hie]
    rfl
  · rw [if_neg (mt State.target_eq_ie_iff.2 hie)]
    unfold State.storeByte
    cases ht : s.target a with
    | ie => exact absurd ht hie
    | vram o | oam o => dsimp only; split <;> rfl
    | wram o | hram o | cartRam x | unusable => rfl
    | rom x | io r => simp [State.plainAt, ht] at h

/-- Rules R149, R188, R201: cartridge RAM after a store to a plain cell of it: the cell holds the byte, MBC2's
the low nibble, and the rest is as it was. -/
theorem cartRamRead_cartRamStore (c : Cartridge) {m : Memory} (hwf : Store.wf m.cartRam = true) {x : Word}
    (h : ∃ o, c.ramTarget x = .byte o ∨ c.ramTarget x = .nibble o) (y : Word) :
    cartRamRead c { m with cartRam := cartRamStore c m.cartRam x v } y =
      if c.ramTarget x = c.ramTarget y then (c.ramTarget x).readBack v else cartRamRead c m y := by
  unfold cartRamRead cartRamStore
  obtain ⟨o, hx | hx⟩ := h
  · have hy (p : Nat) : c.ramTarget y ≠ .nibble p := c.ramTarget_ne_nibble hx y p
    rw [hx]
    cases hr : c.ramTarget y
    case byte p => simp [Store.read_after_write _ hwf, RamTarget.readBack]
    case nibble p => exact absurd hr (hy p)
    all_goals rfl
  · have hy (p : Nat) : c.ramTarget y ≠ .byte p := fun h => c.ramTarget_ne_nibble h x o hx
    rw [hx]
    cases hr : c.ramTarget y
    case nibble p =>
      by_cases h : o = p
      · simpa [Store.read_after_write _ hwf, h, RamTarget.readBack] using nibble_readBack v
      · simp [Store.read_after_write _ hwf, h]
    case byte p => exact absurd hr (hy p)
    all_goals rfl

/-- Rules R148, R154: plain storage that OAM-DMA does not hold is open, or a gate closes it and ignores the
write. -/
theorem State.openAt_or_ignored (h : s.plainAt a = true) (hfree : s.busTaken a = false) :
    s.openAt a = true ∨ s.storeByte a v = s := by
  unfold State.openAt State.storeByte
  cases ht : s.target a with
  | vram o => cases hb : s.vramBlocked <;> simp [h, hfree]
  | oam o => cases hb : s.oamBlocked <;> simp [h, hfree]
  | _ => simp [h, hfree]

/-- An open cell is plain storage that neither OAM-DMA nor the PPU holds. -/
theorem State.openAt_iff : s.openAt a = true ↔ s.plainAt a = true ∧ s.busTaken a = false ∧
    (∀ o, s.target a = .vram o → s.vramBlocked = false) ∧
      ∀ o, s.target a = .oam o → s.oamBlocked = false := by
  unfold State.openAt
  cases s.target a <;> simp [and_assoc]

/-- Rules R143-R146, R153, R158, R173, R188: a store to an open cell changes the byte behind its address and
its mirrors, and no other. -/
theorem State.stored_storeByte (hwf : s.mem.wf = true) (h : s.openAt a = true) (b : Word) :
    (s.storeByte a v).stored b = if s.sameCell a b then s.readBack a v else s.stored b := by
  obtain ⟨-, hvram, hwram, hoam, hhram, hcart, -⟩ := (Memory.wf_iff _).1 hwf
  obtain ⟨hplain, -, hvramOpen, hoamOpen⟩ := State.openAt_iff.1 h
  have htarget : (s.storeByte a v).target b = s.target b := by
    rw [(State.storeByte_plain v hplain).1, State.withStorage_target]
  unfold State.stored
  rw [htarget]
  unfold State.sameCell State.storeByte
  cases ha : s.target a
  case rom x | io r | unusable => simp [State.plainAt, ha] at hplain
  case vram o =>
    rw [hvramOpen o ha]
    cases hb : s.target b
    case vram p => simp [Store.read_after_write _ hvram, State.readBack, ha]
    all_goals rfl
  case oam o =>
    rw [hoamOpen o ha]
    cases hb : s.target b
    case oam p => simp [Store.read_after_write _ hoam, State.readBack, ha]
    all_goals rfl
  case wram o =>
    cases hb : s.target b
    case wram p => simp [Store.read_after_write _ hwram, State.readBack, ha]
    all_goals rfl
  case hram o =>
    cases hb : s.target b
    case hram p => simp [Store.read_after_write _ hhram, State.readBack, ha]
    all_goals rfl
  case ie => cases hb : s.target b <;> simp [State.readBack, ha, State.withInts]
  case cartRam x =>
    have hcell := State.ramTarget_of_plain ha hplain
    cases hb : s.target b
    case cartRam y =>
      simp [cartRamControl_of_plain v hcell, State.readBack_cartRam v ha,
        cartRamRead_cartRamStore _ _ hcart hcell]
    all_goals rfl

/-- Rules R145, R154, R158: an open cell reads as the byte behind it. -/
theorem State.busRead_of_openAt (h : s.openAt a = true) : s.busRead a = .value (s.stored a) := by
  obtain ⟨hplain, hfree, hvram, hoam⟩ := State.openAt_iff.1 h
  rw [s.busRead_of_free hfree]
  unfold State.regionRead State.stored
  cases ha : s.target a
  case rom x | io r | unusable => simp [State.plainAt, ha] at hplain
  case vram o => simp [hvram o ha]
  case oam o => simp [hoam o ha]
  all_goals rfl

/-- Rules R153, R173, R188: two addresses share a cell when they reach the same place, or cartridge RAM cells
that are the same. -/
theorem State.eq_of_sameCell {b : Word} (h : s.sameCell a b = true) :
    s.target a = s.target b ∨ ∃ x y, s.target a = .cartRam x ∧ s.target b = .cartRam y ∧
      s.cart.ramTarget x = s.cart.ramTarget y := by
  unfold State.sameCell at h
  split at h
  · exact .inr ⟨_, _, ‹_›, ‹_›, eq_of_beq h⟩
  · exact .inl (eq_of_beq h)

/-- Rules R153, R173, R188: the mirrors of an open cell are open. -/
theorem State.openAt_of_sameCell {b : Word} (h : s.openAt a = true) (hsame : s.sameCell a b = true) :
    s.openAt b = true := by
  unfold State.openAt State.plainAt at h ⊢
  rw [State.busTaken_eq] at h ⊢
  obtain heq | ⟨x, y, hx, hy, hr⟩ := State.eq_of_sameCell hsame
  · rwa [← heq]
  · rw [hx] at h
    rw [hy]
    dsimp only at h ⊢
    rwa [← hr]

/-- Rules R143, R145: a store to an open cell shows at its address and its mirrors alone. -/
theorem State.busRead_storeByte (hwf : s.mem.wf = true) (h : s.openAt a = true) (b : Word) :
    (s.storeByte a v).busRead b =
      if s.sameCell a b then .value (s.readBack a v) else s.busRead b := by
  obtain ⟨hplain, -⟩ := State.openAt_iff.1 h
  obtain ⟨hstore, hwave⟩ := State.storeByte_plain v hplain
  have hstored := State.stored_storeByte v hwf h b
  split <;> rename_i hsame
  · have hopen : (s.storeByte a v).openAt b = true := by
      rw [hstore]
      exact State.openAt_of_sameCell h hsame
    rw [State.busRead_of_openAt hopen, hstored, if_pos hsame]
  · rw [if_neg hsame, hstore] at hstored
    rw [hstore]
    exact s.busRead_withStorage _ _ b (s.storeByte_rom a v) hwave hstored

end

/-- Settles O37: a store to plain storage changes nothing but the memories and IE, and the reads see what it
changed. -/
theorem openStoreReadsBack : Obligations.OpenStoreReadsBack := by
  intro s a v hwf hopen
  obtain ⟨hplain, hfree, -⟩ := State.openAt_iff.1 hopen
  refine ⟨?_, State.busRead_storeByte v hwf hopen, s.storeByte_wf a v hwf, ?_⟩
  · unfold State.writeRefusal
    rw [hfree]
    cases ha : s.target a
    case io r => simp [State.plainAt, ha] at hplain
    all_goals rfl
  · rw [← State.storeByte_ie v hplain]
    exact (State.storeByte_plain v hplain).1

end Sys2Proof.Machine

namespace Sys2Proof.Machine

/-! ## The frame of every instruction over memory (20_memory.md R145, R146) -/

/-- What an instruction that is not STOP does to the world outside the CPU: it stores bytes, at the
addresses `l`, and nothing else. -/
inductive StoresIn (l : List Word) (s : State) : State → Prop
  | refl : StoresIn l s s
  | cpu {t : State} (h : StoresIn l s t) (c : Cpu) : StoresIn l s (t.withCpu c)
  | cost {t : State} (h : StoresIn l s t) (k : Nat) : StoresIn l s { t with stepCost := k }
  | draw {t : State} (h : StoresIn l s t) (n : Nat) : StoresIn l s { t with draws := n }
  | store {t : State} (h : StoresIn l s t) {a : Word} (ha : a ∈ l) (v : Byte)
      (hr : t.writeRefusal a v = none) : StoresIn l s (t.storeByte a v)

namespace StoresIn

variable {l : List Word} {s t u : State}

theorem trans (h : StoresIn l s t) (k : StoresIn l t u) : StoresIn l s u := by
  induction k with
  | refl => exact h
  | cpu _ c ih => exact ih.cpu c
  | cost _ k ih => exact ih.cost k
  | draw _ n ih => exact ih.draw n
  | store _ ha v hr ih => exact ih.store ha v hr

theorem start (len cost : Nat) (h : StoresIn l (s.startInstr len cost) t) : StoresIn l s t :=
  ((cpu refl _).cost _).trans h

theorem readsAs {a : Word} {v : Byte} (h : ReadsAs s a v t) : StoresIn l s t := by
  rw [h.state]
  exact refl.draw _

theorem writeByte {a : Word} {v : Byte} (ha : a ∈ l) (h : writeByte a v s = .next t) : StoresIn l s t := by
  obtain ⟨hr, rfl⟩ := writeByte_next.1 h
  exact refl.store ha v hr

theorem withRead {a : Word} {k : Byte → State → Result} (h : withRead a s k = .next t)
    (hk : ∀ v u, u.cpu = s.cpu → k v u = .next t → StoresIn l u t) : StoresIn l s t := by
  obtain ⟨v, u, hu, ht⟩ := withRead_next k h
  exact (readsAs hu).trans (hk v u hu.cpu ht)

theorem chain {r : Result} {k : State → Result} (h : chain r k = .next t)
    (hr : ∀ u, r = .next u → StoresIn l s u) (hk : ∀ u, k u = .next t → StoresIn l u t) : StoresIn l s t := by
  obtain ⟨u, h1, h2⟩ := chain_next.1 h
  exact (hr u h1).trans (hk u h2)

theorem of_next {c : Cpu} (h : (.next (s.withCpu c) : Result) = .next t) : StoresIn l s t := by
  cases h; exact refl.cpu c

theorem loadReg {r : Reg8} {a : Word} (h : loadReg r a s = .next t) : StoresIn l s t :=
  withRead h fun _ _ _ h1 => of_next h1

theorem loadAMove {d : Word} (h : loadAMove d s = .next t) : StoresIn l s t :=
  withRead h fun _ _ _ h1 => of_next h1

theorem storeAMove {d : Word} (hl : s.hl ∈ l) (h : storeAMove d s = .next t) : StoresIn l s t :=
  chain h (fun _ h1 => writeByte hl h1) fun _ h2 => of_next h2

theorem storeWord {a v : Word} (h1 : a ∈ l) (h2 : a + 1 ∈ l) (h : storeWord a v s = .next t) : StoresIn l s t :=
  chain h (fun _ k1 => writeByte h1 k1) fun _ k2 => writeByte h2 k2

theorem pushWord {v : Word} (h1 : s.cpu.sp - 1 ∈ l) (h2 : s.cpu.sp - 2 ∈ l) (h : pushWord v s = .next t) :
    StoresIn l s t := by
  obtain ⟨u, rfl, hr1, hr2, rfl⟩ := pushWord_next h
  have hsp : s.cpu.sp - 1 - 1 = s.cpu.sp - 2 := by bv_omega
  exact ((((refl.cpu _).store h1 _ hr1).cpu _).store (hsp ▸ h2) _ hr2)

theorem popWord {k : Word → State → Result} (h : popWord s k = .next t)
    (hk : ∀ v u, k v u = .next t → StoresIn l u t) : StoresIn l s t :=
  withRead h fun _ _ _ h1 => (refl.cpu _).trans <| withRead h1 fun _ _ _ h2 => (refl.cpu _).trans (hk _ _ h2)

theorem returnTo (h : returnTo s = .next t) : StoresIn l s t := popWord h fun _ _ h1 => of_next h1

theorem returnFromInterrupt (h : returnFromInterrupt s = .next t) : StoresIn l s t :=
  popWord h fun _ _ h1 => of_next h1

theorem callTo {target : Word} (h1 : s.cpu.sp - 1 ∈ l) (h2 : s.cpu.sp - 2 ∈ l)
    (h : callTo target s = .next t) : StoresIn l s t :=
  chain h (fun _ k1 => pushWord h1 h2 k1) fun _ k2 => of_next k2

theorem updateAtHl {f : Byte → Flags → Flagged} (hl : s.hl ∈ l) (h : updateAtHl f s = .next t) :
    StoresIn l s t :=
  withRead h fun _ u hu h1 => chain h1 (fun _ h2 => writeByte (by rwa [State.hl, State.reg16, hu]) h2)
    fun _ h3 => of_next h3

theorem modifyAtHl {f : Byte → Byte} (hl : s.hl ∈ l) (h : modifyAtHl f s = .next t) : StoresIn l s t :=
  withRead h fun _ u hu h1 => writeByte (by rwa [State.hl, State.reg16, hu]) h1

end StoresIn

section
variable (s : State)

theorem hl_mem_storedAt_ldMemReg (r : Reg8) : s.hl ∈ storedAt s (.ldMemReg r) := by
  cases r <;> exact List.mem_singleton_self _

theorem hl_mem_storedAt_shiftMem (o : ShiftOp) : s.hl ∈ storedAt s (.shiftMem o) := by
  cases o <;> exact List.mem_singleton_self _

theorem hl_mem_storedAt_resMem (b : Field3) : s.hl ∈ storedAt s (.resMem b) := by
  cases b <;> exact List.mem_singleton_self _

theorem hl_mem_storedAt_setMem (b : Field3) : s.hl ∈ storedAt s (.setMem b) := by
  cases b <;> exact List.mem_singleton_self _

theorem storedAt_pushPair (p : StackPair) : storedAt s (.pushPair p) = [s.cpu.sp - 1, s.cpu.sp - 2] := by
  cases p <;> rfl

theorem storedAt_rstVec (y : Field3) : storedAt s (.rstVec y) = [s.cpu.sp - 1, s.cpu.sp - 2] := by
  cases y <;> rfl

theorem storedAt_callCond {cc : Cond} (h : s.cpu.flags.holds cc = true) (nn : Word) :
    storedAt s (.callCond cc nn) = [s.cpu.sp - 1, s.cpu.sp - 2] := by
  cases cc with
  | nz | nc => exact if_neg (by simpa [Flags.holds] using h)
  | z | c => exact if_pos h

end

/-- Rules R145, R146: an instruction other than STOP stores at the addresses `storedAt` lists, and changes
nothing else outside the CPU. -/
theorem exec_storesIn {i : Instr} {s t : State} (hstop : ∀ n, i ≠ .stop n) (h : exec i s = .next t) :
    StoresIn (storedAt s i) s t := by
  revert hstop h
  apply Instr.byFamily (P := fun i => (∀ n, i ≠ .stop n) → exec i s = .next t → StoresIn (storedAt s i) s t)
    (i := i)
  case h_stop => exact fun n hstop => absurd rfl (hstop n)
  case h_illegal => intro o _ h; rw [exec_illegal] at h; cases h
  case h_halt =>
    intro _ h
    have hhalt : exec .halt s = .next (s.startInstr 1 4).enterHalt := rfl
    rw [hhalt, State.enterHalt] at h
    split at h <;> exact .start 1 4 (.of_next h)
  case h_ldMbcA | h_ldMdeA | h_ldhMcA =>
    exact fun _ h => .start _ _ (.writeByte (List.mem_singleton_self _) h)
  case h_ldMhlN | h_ldhMnA | h_ldMnnA =>
    exact fun _ _ h => .start _ _ (.writeByte (List.mem_singleton_self _) h)
  case h_ldMemReg =>
    intro r _ h
    rw [exec_ldMemReg] at h
    exact .start _ _ (.writeByte (hl_mem_storedAt_ldMemReg s r) h)
  case h_ldMnnSp => exact fun nn _ h => .start _ _ (.storeWord (.head _) (.tail _ (.head _)) h)
  case h_ldMhliA | h_ldMhldA => exact fun _ h => .start _ _ (.storeAMove (List.mem_singleton_self _) h)
  case h_incMhl | h_decMhl => exact fun _ h => .start _ _ (.updateAtHl (List.mem_singleton_self _) h)
  case h_shiftMem =>
    intro o _ h
    rw [exec_shiftMem] at h
    exact .start _ _ (.updateAtHl (hl_mem_storedAt_shiftMem s o) h)
  case h_resMem =>
    intro b _ h
    rw [exec_resMem] at h
    exact .start _ _ (.modifyAtHl (hl_mem_storedAt_resMem s b) h)
  case h_setMem =>
    intro b _ h
    rw [exec_setMem] at h
    exact .start _ _ (.modifyAtHl (hl_mem_storedAt_setMem s b) h)
  case h_pushPair =>
    intro p _ h
    rw [exec_pushPair] at h
    rw [storedAt_pushPair]
    exact .start _ _ (.pushWord (.head _) (.tail _ (.head _)) h)
  case h_rstVec =>
    intro y _ h
    rw [exec_rstVec] at h
    rw [storedAt_rstVec]
    exact .start _ _ (.callTo (.head _) (.tail _ (.head _)) h)
  case h_callNn => exact fun nn _ h => .start _ _ (.callTo (.head _) (.tail _ (.head _)) h)
  case h_callCond =>
    intro cc nn _ h
    rw [exec_callCond] at h
    split at h
    · rw [storedAt_callCond s ‹_›]
      exact .start _ _ (.callTo (.head _) (.tail _ (.head _)) h)
    · exact .start _ _ (.of_next h)
  case h_retCond =>
    intro cc _ h
    rw [exec_retCond] at h
    split at h
    · exact .start _ _ (.returnTo h)
    · exact .start _ _ (.of_next h)
  case h_jpCond => intro cc nn _ h; rw [exec_jpCond] at h; split at h <;> exact .start _ _ (.of_next h)
  case h_jrCond => intro cc e _ h; rw [exec_jrCond] at h; split at h <;> exact .start _ _ (.of_next h)
  case h_ret => exact fun _ h => .start _ _ (.returnTo h)
  case h_reti => exact fun _ h => .start _ _ (.returnFromInterrupt h)
  case h_popPair =>
    intro p _ h
    rw [exec_popPair] at h
    exact .start _ _ (.popWord h fun _ _ h1 => .of_next h1)
  case h_aluMem =>
    intro o _ h
    rw [exec_aluMem] at h
    exact .start _ _ (.withRead h fun _ _ _ h1 => .of_next h1)
  case h_bitMem =>
    intro b _ h
    rw [exec_bitMem] at h
    exact .start _ _ (.withRead h fun _ _ _ h1 => .of_next h1)
  case h_ldRegMem => intro r _ h; rw [exec_ldRegMem] at h; exact .start _ _ (.loadReg h)
  case h_ldAMbc | h_ldAMde | h_ldhAMc => exact fun _ h => .start _ _ (.loadReg h)
  case h_ldhAMn | h_ldAMnn => exact fun _ _ h => .start _ _ (.loadReg h)
  case h_ldAMhli | h_ldAMhld => exact fun _ h => .start _ _ (.loadAMove h)
  all_goals
    intros
    rename_i h
    simp only [exec_ldRegReg, exec_ldRegImm, exec_aluReg, exec_aluImm, exec_incReg, exec_decReg,
      exec_ldPairImm, exec_addHlPair, exec_incPair, exec_decPair, exec_shiftReg, exec_bitReg,
      exec_resReg, exec_setReg, exec_nop, exec_rlca, exec_rrca, exec_jrE, exec_rla, exec_rra,
      exec_daa, exec_cpl, exec_scf, exec_ccf, exec_jpNn, exec_addSpE, exec_jpHl, exec_ldHlSpE,
      exec_ldSpHl, exec_di, exec_ei] at h
    exact .start _ _ (.of_next h)

/-- Rule R515: OAM-DMA does not hold an address a write is not refused at. -/
theorem State.busTaken_of_unrefused {s : State} {a : Word} {v : Byte} (h : s.writeRefusal a v = none) :
    s.busTaken a = false := by
  unfold State.writeRefusal at h
  split at h
  · cases h
  · exact Bool.not_eq_true _ ▸ ‹_›

/-- Rules R143, R145, R153: `t` maps memory as `s` does, and reads as `s` at every address that shares no cell
with one of `l`. -/
structure BytesKept (l : List Word) (s t : State) : Prop where
  target : ∀ a, t.target a = s.target a
  cart : t.cart = s.cart
  wf : t.mem.wf = true
  reads : ∀ b, (∀ a ∈ l, s.sameCell a b = false) → t.busRead b = s.busRead b

namespace BytesKept

variable {l : List Word} {s t : State}

theorem plainAt (h : BytesKept l s t) (a : Word) : t.plainAt a = s.plainAt a := by
  unfold State.plainAt
  rw [h.target, h.cart]

theorem sameCell (h : BytesKept l s t) (a b : Word) : t.sameCell a b = s.sameCell a b := by
  unfold State.sameCell
  rw [h.target, h.target, h.cart]

/-- A store to plain storage of the list keeps the bytes elsewhere: an open cell shows at its mirrors alone,
a closed gate ignores the write. -/
theorem storeByte (h : BytesKept l s t) {a : Word} (ha : a ∈ l) (hplain : s.plainAt a = true) (v : Byte)
    (hr : t.writeRefusal a v = none) : BytesKept l s (t.storeByte a v) := by
  have hfree := State.busTaken_of_unrefused hr
  rw [← h.plainAt] at hplain
  obtain hopen | hignored := State.openAt_or_ignored v hplain hfree
  · have hstore := (State.storeByte_plain v hplain).1
    refine ⟨fun b => ?_, ?_, t.storeByte_wf a v h.wf, fun b hb => ?_⟩
    · rw [hstore, State.withStorage_target, h.target]
    · rw [hstore, State.withStorage_cart, h.cart]
    · rw [State.busRead_storeByte v h.wf hopen, h.sameCell, hb a ha]
      exact h.reads b hb
  · rwa [hignored]

theorem of_storesIn (h : StoresIn l s t) (hwf : s.mem.wf = true) (hplain : ∀ a ∈ l, s.plainAt a = true) :
    BytesKept l s t := by
  induction h with
  | refl => exact ⟨fun _ => rfl, rfl, hwf, fun _ _ => rfl⟩
  | cpu _ c ih | cost _ k ih | draw _ n ih => exact ⟨ih.target, ih.cart, ih.wf, ih.reads⟩
  | store _ ha v hr ih => exact ih.storeByte ha (hplain _ ha) v hr

end BytesKept

section
variable {a : Word} (m : ConsoleMode) (hlo : 0xFF00 ≤ a.toNat) (hhi : a.toNat < 0xFF80)
include hlo hhi

theorem ioReg_eq_div_iff : ioReg m a = .div ↔ a = 0xFF04 :=
  ioPage_forall (P := fun a => ioReg m a = .div ↔ a = 0xFF04) (by cases m <;> decide +kernel) hlo hhi

theorem ioReg_eq_tima_iff : ioReg m a = .tima ↔ a = 0xFF05 :=
  ioPage_forall (P := fun a => ioReg m a = .tima ↔ a = 0xFF05) (by cases m <;> decide +kernel) hlo hhi

end

/-- Rules R145, R467: a read sees of another timer no more than DIV, TIMA, TMA and TAC. -/
theorem State.busRead_withTimer (s : State) {x : Timer} {b : Word} (htma : x.tma = s.timer.tma)
    (htac : x.tac = s.timer.tac) (hdiv : b ≠ 0xFF04) (htima : b ≠ 0xFF05) :
    (s.withTimer x).busRead b = s.busRead b := by
  unfold State.busRead
  refine if_congr Iff.rfl rfl ?_
  unfold State.regionRead
  have htarget : (s.withTimer x).target b = s.target b := rfl
  rw [htarget]
  cases hb : s.target b
  case io r =>
    obtain ⟨⟨hlo, hhi⟩, hr⟩ := State.target_eq_io_iff.1 hb
    cases r
    case div => exact absurd ((ioReg_eq_div_iff _ hlo hhi).1 hr) hdiv
    case tima => exact absurd ((ioReg_eq_tima_iff _ hlo hhi).1 hr) htima
    case tma => exact congrArg ReadResult.value htma
    case tac => exact congrArg (fun t : BitVec 3 => ReadResult.value (0x1F#5 ++ t)) htac
    all_goals rfl
  all_goals rfl

/-- Rule R463: a divider reset leaves TMA and TAC. -/
theorem Timer.divReset_tma_tac (enabled : Bool) (t : Timer) :
    (t.divReset enabled).tma = t.tma ∧ (t.divReset enabled).tac = t.tac := by
  unfold Timer.divReset Timer.settle Timer.edge Timer.increment
  split_ifs <;> exact ⟨rfl, rfl⟩

/-- Settles O36: STOP changes the timer alone; every other instruction stores at the addresses `storedAt`
lists, and its stores keep the bytes elsewhere. -/
theorem memoryFrame : Obligations.MemoryFrame := by
  intro i s t hwf h hplain b hb hi
  by_cases hstop : ∃ n, i = .stop n
  · obtain ⟨n, rfl⟩ := hstop
    obtain hne | ⟨hdiv, htima⟩ := hi
    · exact absurd rfl (hne n)
    · rw [exec_stop] at h
      cases h
      obtain ⟨htma, htac⟩ := s.timer.divReset_tma_tac s.enable.timer
      exact s.busRead_withTimer htma htac hdiv htima
  · have hstores := exec_storesIn (fun n hn => hstop ⟨n, hn⟩) h
    exact (BytesKept.of_storesIn hstores hwf hplain).reads b hb

end Sys2Proof.Machine

namespace Sys2Proof.Machine

/-! ## The cartridge (20_memory.md R172-R201) -/

/-- Rules R180, R189, R196: the enable value is a low nibble of 0xA. -/
theorem ramEnableValue_eq (v : Byte) : ramEnableValue v = decide (v.toNat % 16 = 10) := by
  rw [ramEnableValue, Bool.eq_iff_iff, beq_iff_eq, decide_eq_true_iff, ← BitVec.toNat_inj, toNat_field]
  simp

/-- Rules R181, R186, R190: the low bits of a byte as a bank number of which 0 becomes 1. -/
theorem toNat_bankOr1 (v : Byte) {len : Nat} (hlen : 0 < len) :
    (if v.extractLsb' 0 len = 0 then 1 else v.extractLsb' 0 len).toNat =
      if v.toNat % 2 ^ len = 0 then 1 else v.toNat % 2 ^ len := by
  have hfield : (v.extractLsb' 0 len).toNat = v.toNat % 2 ^ len := by
    rw [toNat_field, pow_zero, Nat.div_one]
  have hzero : v.extractLsb' 0 len = 0 ↔ v.toNat % 2 ^ len = 0 := by
    rw [← BitVec.toNat_inj, hfield]
    simp
  rw [apply_ite BitVec.toNat, hfield, if_congr hzero rfl rfl]
  simp [hlen]

/-- The four 8 KiB regions of the ROM's address range. -/
theorem region_of_lt {n : Nat} (h : n < 0x8000) :
    n < 0x2000 ∨ (0x2000 ≤ n ∧ n < 0x4000) ∨ (0x4000 ≤ n ∧ n < 0x6000) ∨ 0x6000 ≤ n ∧ n < 0x8000 := by
  omega

section
variable {a : Word} (v : Byte) (ha : a.toNat < 0x8000)
include ha

/-- Rules R180-R183. -/
theorem Mbc1.control_eq (m : Mbc1) :
    (m.control a v).ramEnable = (if a.toNat < 0x2000 then decide (v.toNat % 16 = 10) else m.ramEnable) ∧
      (m.control a v).bank1.toNat = (if a.toNat / 0x2000 = 1 then
        (if v.toNat % 32 = 0 then 1 else v.toNat % 32) else m.bank1.toNat) ∧
      (m.control a v).bank2.toNat = (if a.toNat / 0x2000 = 2 then v.toNat % 4 else m.bank2.toNat) ∧
      (m.control a v).mode1 =
        (if a.toNat / 0x2000 = 3 then decide (v.toNat % 2 = 1) else m.mode1) := by
  rcases region_of_lt ha with h | ⟨h, h'⟩ | ⟨h, h'⟩ | ⟨h, h'⟩ <;>
    simp (disch := omega) only [Mbc1.control, if_pos, if_neg, ramEnableValue_eq, toNat_bankOr1,
      toNat_field, getLsbD_num, pow_zero, Nat.div_one, Nat.reducePow, and_self]

omit ha in
/-- Rule R186. -/
theorem Mbc2.control_eq (m : Mbc2) :
    (m.control a v).ramEnable = (if a.toNat < 0x4000 ∧ a.toNat / 256 % 2 = 0 then
        decide (v.toNat % 16 = 10) else m.ramEnable) ∧
      (m.control a v).romBank.toNat = (if a.toNat < 0x4000 ∧ a.toNat / 256 % 2 = 1 then
        (if v.toNat % 16 = 0 then 1 else v.toNat % 16) else m.romBank.toNat) := by
  have hbit : a.getLsbD 8 = decide (a.toNat / 256 % 2 = 1) := getLsbD_num a 8
  by_cases h : a.toNat < 0x4000
  · rcases Nat.mod_two_eq_zero_or_one (a.toNat / 256) with h8 | h8 <;>
      simp (disch := omega) only [Mbc2.control, if_pos, h, hbit, h8, ramEnableValue_eq, toNat_bankOr1,
        Nat.reducePow, decide_true, decide_false, and_self, if_true, if_false, Bool.false_eq_true,
        zero_ne_one, one_ne_zero, and_false]
  · simp [Mbc2.control, h]

/-- Rules R189-R192. -/
theorem Mbc3.control_eq (m : Mbc3) :
    (m.control a v).ramEnable = (if a.toNat < 0x2000 then decide (v.toNat % 16 = 10) else m.ramEnable) ∧
      (m.control a v).romBank.toNat = (if a.toNat / 0x2000 = 1 then
        (if v.toNat % 128 = 0 then 1 else v.toNat % 128) else m.romBank.toNat) ∧
      (m.control a v).select = (if a.toNat / 0x2000 = 2 then v else m.select) ∧
      (m.control a v).latched =
        (if a.toNat / 0x2000 = 3 ∧ v = 1 ∧ m.latchArmed = true then m.rtc else m.latched) ∧
      (m.control a v).latchArmed = (if a.toNat / 0x2000 = 3 then decide (v = 0) else m.latchArmed) ∧
      (m.control a v).rtc = m.rtc ∧ (m.control a v).sub = m.sub := by
  rcases region_of_lt ha with h | ⟨h, h'⟩ | ⟨h, h'⟩ | ⟨h, h'⟩
  case inr.inr.inr =>
    have h3 : a.toNat / 0x2000 = 3 := by omega
    simp (disch := omega) only [Mbc3.control, if_pos, if_neg, h3, true_and]
    unfold Mbc3.latch
    by_cases h0 : v = 0
    · subst h0
      simp
    · by_cases h1 : v = 1 ∧ m.latchArmed = true
      · simp only [if_neg h0, if_pos h1, decide_eq_false h0, if_true, and_self]
      · simp only [if_neg h0, if_neg h1, decide_eq_false h0, if_true, and_self]
  all_goals
    simp (disch := omega) only [Mbc3.control, if_pos, if_neg, ramEnableValue_eq, toNat_bankOr1,
      Nat.reducePow, and_self]

/-- Rules R196-R198. -/
theorem Mbc5.control_eq (m : Mbc5) :
    (m.control a v).ramEnable = (if a.toNat < 0x2000 then decide (v.toNat % 16 = 10) else m.ramEnable) ∧
      (m.control a v).romBank.toNat = (if a.toNat / 0x1000 = 2 then m.romBank.toNat / 256 * 256 + v.toNat
        else if a.toNat / 0x1000 = 3 then v.toNat % 2 * 256 + m.romBank.toNat % 256
        else m.romBank.toNat) ∧
      (m.control a v).ramBank.toNat = (if a.toNat / 0x2000 = 2 then
        (if m.rumble then v.toNat % 8 else v.toNat % 16) else m.ramBank.toNat) := by
  have hlow : (m.romBank.extractLsb' 8 1 ++ v).toNat = m.romBank.toNat / 256 * 256 + v.toNat := by
    have := m.romBank.isLt
    rw [toNat_append_add, toNat_field]
    omega
  have hhigh : (v.extractLsb' 0 1 ++ m.romBank.extractLsb' 0 8).toNat =
      v.toNat % 2 * 256 + m.romBank.toNat % 256 := by
    rw [toNat_append_add, toNat_field, toNat_field]
    omega
  rcases region_of_lt ha with h | ⟨h, h'⟩ | ⟨h, h'⟩ | ⟨h, h'⟩
  case inr.inl =>
    by_cases h3 : a.toNat < 0x3000 <;> simp (disch := omega) only [Mbc5.control, if_pos, if_neg, true_and]
    · exact ⟨hlow, trivial⟩
    · exact ⟨hhigh, trivial⟩
  case inr.inr.inl =>
    simp (disch := omega) only [Mbc5.control, if_pos, if_neg, true_and]
    cases m.rumble
    · exact (toNat_field v 0 4).trans (by norm_num)
    · have := v.isLt
      simp
      omega
  all_goals simp (disch := omega) only [Mbc5.control, if_pos, if_neg, ramEnableValue_eq, and_self]

end

/-- Settles O54: a write below 0x8000 is a control write of the mapper the cartridge has. -/
theorem mapperControl : Obligations.MapperControl := by
  intro s a v ha
  have hafter : (s.storeByte a v).cart.mapper = (s.cart.control a v).mapper := by
    rw [State.storeByte, s.target_rom ha]
  dsimp only
  rw [hafter, Cartridge.control]
  refine ⟨fun m hm => ?_, fun m hm => ?_, fun m hm => ?_, fun m hm => ?_, fun hm => ?_⟩ <;> rw [hm]
  · exact ⟨_, rfl, Mbc1.control_eq v ha m⟩
  · exact ⟨_, rfl, Mbc2.control_eq v m⟩
  · exact ⟨_, rfl, Mbc3.control_eq v ha m⟩
  · exact ⟨_, rfl, Mbc5.control_eq v ha m⟩
  · exact hm

end Sys2Proof.Machine

namespace Sys2Proof.Machine

/-- Rules R185, R200, R201: the byte of a RAM bank at an address, 0xFF where the cartridge has no RAM. -/
def Cartridge.bankRead (c : Cartridge) (m : Memory) (bank : Nat) (a : Word) : Byte :=
  if c.ramSize = 0 then 0xFF
  else Store.read m.cartRam ((bank % c.ramBanks * 0x2000 + (a.toNat - 0xA000)) % c.ramSize)

section
variable {c : Cartridge} (m : Memory) {a : Word}

theorem cartRamRead_bank {bank : Nat} (h : c.ramTarget a = c.bankByte bank a) :
    cartRamRead c m a = c.bankRead m bank a := by
  unfold cartRamRead Cartridge.bankRead
  rw [h, Cartridge.bankByte]
  split_ifs <;> rfl

theorem cartRamRead_closed (h : c.ramTarget a = .closed) : cartRamRead c m a = 0xFF := by
  rw [cartRamRead, h]

/-- Rules R180, R196, R201: cartridge RAM behind an enable. -/
theorem cartRamRead_enabled {bank : Nat} {enable : Bool}
    (h : c.ramTarget a = if enable then c.bankByte bank a else .closed) :
    cartRamRead c m a = if enable then c.bankRead m bank a else 0xFF := by
  cases enable
  · exact cartRamRead_closed m h
  · exact cartRamRead_bank m h

end

/-- Rule R193: DH as a number: bit 8 of the day counter, the halt bit and the carry. -/
theorem Rtc.toNat_read_dayHigh (t : Rtc) :
    (t.read .dayHigh).toNat = t.day.toNat / 256 + 64 * t.halt.toNat + 128 * t.carry.toNat := by
  have hday : t.day.toNat / 256 = (t.day.getLsbD 8).toNat := by
    have hday : t.day.toNat / 256 < 2 := by omega
    have hbit : t.day.getLsbD 8 = decide (t.day.toNat / 256 % 2 = 1) := getLsbD_num t.day 8
    rw [hbit]
    interval_cases t.day.toNat / 256 <;> rfl
  unfold Rtc.read
  dsimp only
  rw [hday]
  cases t.carry <;> cases t.halt <;> cases t.day.getLsbD 8 <;> rfl

/-- Rules R191, R193, R201: what MBC3 maps past its RAM banks: a latched clock register, or nothing. -/
theorem cartRamRead_clock {c : Cartridge} {m : Mbc3} (hm : c.mapper = .mbc3 m) (henable : m.ramEnable = true)
    (hselect : 4 ≤ m.select.toNat) (mem : Memory) (a : Word) : cartRamRead c mem a =
      (if m.hasRtc then rtcReg? m.select else none).elim 0xFF m.latched.read := by
  have htarget : c.ramTarget a =
      (if m.hasRtc then rtcReg? m.select else none).elim .closed .clock := by
    rw [Cartridge.ramTarget, hm]
    simp only [henable, if_true, Cartridge.mbc3Target, if_neg (Nat.not_lt.2 hselect)]
    cases m.hasRtc <;> cases rtcReg? m.select <;> rfl
  rw [cartRamRead, htarget]
  cases if m.hasRtc then rtcReg? m.select else none with
  | none => rfl
  | some r => simp [Cartridge.clockRead, hm]

/-- Rule R191: the clock registers by their select codes, as numbers. -/
theorem toNat_rtcReg_read (select : Byte) (t : Rtc) : ((rtcReg? select).elim 0xFF t.read).toNat =
    if select = 0x08 then t.sec.toNat
    else if select = 0x09 then t.min.toNat
    else if select = 0x0A then t.hour.toNat
    else if select = 0x0B then t.day.toNat % 256
    else if select = 0x0C then t.day.toNat / 256 + 64 * t.halt.toNat + 128 * t.carry.toNat
    else 255 := by
  unfold rtcReg?
  split_ifs
  · exact BitVec.toNat_setWidth_of_le (b := t.sec) (by decide)
  · exact BitVec.toNat_setWidth_of_le (b := t.min) (by decide)
  · exact BitVec.toNat_setWidth_of_le (b := t.hour) (by decide)
  · exact toNat_field t.day 0 8 |>.trans (by norm_num)
  · exact t.toNat_read_dayHigh
  · rfl

/-- Settles O55: the two ROM banks are the definition's; cartridge RAM is read at what the mapper maps. -/
theorem cartridgeBanks : Obligations.CartridgeBanks := by
  intro c mem a _ _
  dsimp only
  cases hm : c.mapper with
  | none => exact ⟨by simp [Cartridge.lowBank, hm], by simp [Cartridge.highBank, hm],
      cartRamRead_bank mem (by rw [Cartridge.ramTarget, hm])⟩
  | mbc1 m =>
    exact ⟨by simp [Cartridge.lowBank, hm, Mbc1.lowBank, Nat.mul_comm],
      by simp [Cartridge.highBank, hm, Mbc1.highBank, Nat.mul_comm],
      cartRamRead_enabled mem (by rw [Cartridge.ramTarget, hm])⟩
  | mbc2 m =>
    refine ⟨by simp [Cartridge.lowBank, hm], by simp [Cartridge.highBank, hm], ?_⟩
    have hcell : (a.extractLsb' 0 9).toNat = a.toNat % 512 := (toNat_field a 0 9).trans (by norm_num)
    cases henable : m.ramEnable
    · exact cartRamRead_closed mem (by simp [Cartridge.ramTarget, hm, henable])
    · simp only [cartRamRead, Cartridge.ramTarget, hm, henable, if_true, hcell]
  | mbc3 m =>
    refine ⟨by simp [Cartridge.lowBank, hm], by simp [Cartridge.highBank, hm], fun henable => ?_,
      fun henable hselect => ?_, fun henable hselect => ?_⟩
    · exact cartRamRead_closed mem (by simp [Cartridge.ramTarget, hm, henable])
    · exact cartRamRead_bank mem
        (by simp only [Cartridge.ramTarget, hm, henable, if_true, Cartridge.mbc3Target, hselect])
    · rw [cartRamRead_clock hm henable hselect]
      cases m.hasRtc with
      | false => simp
      | true => simpa using toNat_rtcReg_read m.select m.latched
  | mbc5 m =>
    exact ⟨by simp [Cartridge.lowBank, hm], by simp [Cartridge.highBank, hm],
      cartRamRead_enabled mem (by rw [Cartridge.ramTarget, hm])⟩

end Sys2Proof.Machine

namespace Sys2Proof.Machine

/-! ## The MBC3 clock (20_memory.md R194) -/

namespace Rtc

/-- Rule R194: the hours since the day counter was 0, of the clock's day and hour. -/
def totalHours (t : Rtc) : Nat := t.day.toNat * 24 + t.hour.toNat

/-- Rule R194: the minutes since the day counter was 0. -/
def totalMinutes (t : Rtc) : Nat := t.totalHours * 60 + t.min.toNat

/-- Rule R194: the seconds since the day counter was 0. -/
def totalSeconds (t : Rtc) : Nat := t.totalMinutes * 60 + t.sec.toNat

/-- Rule R194: `u` is `t` a unit later, of which `wrap` make 512 days: the count `total` moves on modulo
`wrap`, the carry tells that it wrapped, and no field is out of its range. -/
structure Advanced (total : Rtc → Nat) (wrap : Nat) (t u : Rtc) : Prop where
  count : total u = (total t + 1) % wrap
  carry : u.carry = true ↔ t.carry = true ∨ total t + 1 = wrap
  sec : u.sec.toNat < 60
  min : u.min.toNat < 60
  hour : u.hour.toNat < 24

theorem addHour_halt (t : Rtc) : t.addHour.halt = t.halt := by
  unfold addHour; split <;> rfl

theorem addMinute_halt (t : Rtc) : t.addMinute.halt = t.halt := by
  unfold addMinute; split
  · exact addHour_halt _
  · rfl

theorem addSecond_halt (t : Rtc) : t.addSecond.halt = t.halt := by
  unfold addSecond; split
  · exact addMinute_halt _
  · rfl

theorem addHour_sec (t : Rtc) : t.addHour.sec = t.sec := by
  unfold addHour; split <;> rfl

theorem addHour_min (t : Rtc) : t.addHour.min = t.min := by
  unfold addHour; split <;> rfl

theorem addMinute_sec (t : Rtc) : t.addMinute.sec = t.sec := by
  unfold addMinute; split
  · exact addHour_sec _
  · rfl

variable {t : Rtc}

theorem addHour_advanced (hsec : t.sec.toNat < 60) (hmin : t.min.toNat < 60) (hhour : t.hour.toNat < 24) :
    Advanced totalHours (512 * 24) t t.addHour := by
  have hday := t.day.isLt
  unfold addHour
  split
  · have hlast : t.hour.toNat = 23 := by bv_omega
    have hnext : (t.day + 1).toNat = (t.day.toNat + 1) % 512 := by simp
    have hcarry : t.day + 1 = 0 ↔ t.day.toNat = 511 := by bv_omega
    refine ⟨?_, ?_, hsec, hmin, (by decide : (0 : BitVec 5).toNat < 24)⟩
    · simp only [totalHours, hnext, hlast]
      simp
      omega
    · have hwrap : t.totalHours + 1 = 512 * 24 ↔ t.day.toNat = 511 := by
        rw [totalHours]
        omega
      rw [Bool.or_eq_true, beq_iff_eq, hcarry, hwrap]
  · have hne : t.hour.toNat ≠ 23 := by bv_omega
    have hnext : (t.hour + 1).toNat = t.hour.toNat + 1 := by bv_omega
    have hwrap : t.totalHours + 1 ≠ 512 * 24 := by
      simp only [totalHours]
      omega
    refine ⟨?_, (or_iff_left hwrap).symm, hsec, hmin, hnext.trans_lt (by omega)⟩
    simp only [totalHours, hnext]
    omega

theorem addMinute_advanced (hsec : t.sec.toNat < 60) (hmin : t.min.toNat < 60) (hhour : t.hour.toNat < 24) :
    Advanced totalMinutes (512 * 24 * 60) t t.addMinute := by
  have hday := t.day.isLt
  unfold addMinute
  split
  · have hlast : t.min.toNat = 59 := by bv_omega
    obtain ⟨hcount, hcarry, h1, h2, h3⟩ :=
      addHour_advanced (t := { t with min := 0 }) hsec (by decide : (0 : BitVec 6).toNat < 60) hhour
    have hhours : totalHours { t with min := 0 } = t.totalHours := rfl
    rw [hhours] at hcount hcarry
    refine ⟨?_, hcarry.trans (or_congr Iff.rfl ?_), h1, h2, h3⟩
    · rw [totalMinutes, hcount, addHour_min, totalMinutes, hlast]
      simp
      omega
    · rw [totalMinutes, hlast]
      omega
  · have hne : t.min.toNat ≠ 59 := by bv_omega
    have hnext : (t.min + 1).toNat = t.min.toNat + 1 := by bv_omega
    have hwrap : t.totalMinutes + 1 ≠ 512 * 24 * 60 := by
      simp only [totalMinutes, totalHours]
      omega
    refine ⟨?_, (or_iff_left hwrap).symm, hsec, hnext.trans_lt (by omega), hhour⟩
    simp only [totalMinutes, totalHours, hnext]
    omega

theorem addSecond_advanced (hsec : t.sec.toNat < 60) (hmin : t.min.toNat < 60) (hhour : t.hour.toNat < 24) :
    Advanced totalSeconds (512 * 24 * 60 * 60) t t.addSecond := by
  have hday := t.day.isLt
  unfold addSecond
  split
  · have hlast : t.sec.toNat = 59 := by bv_omega
    obtain ⟨hcount, hcarry, h1, h2, h3⟩ :=
      addMinute_advanced (t := { t with sec := 0 }) (by decide : (0 : BitVec 6).toNat < 60) hmin hhour
    have hminutes : totalMinutes { t with sec := 0 } = t.totalMinutes := rfl
    rw [hminutes] at hcount hcarry
    refine ⟨?_, hcarry.trans (or_congr Iff.rfl ?_), h1, h2, h3⟩
    · rw [totalSeconds, hcount, addMinute_sec, totalSeconds, hlast]
      simp
      omega
    · rw [totalSeconds, hlast]
      omega
  · have hne : t.sec.toNat ≠ 59 := by bv_omega
    have hnext : (t.sec + 1).toNat = t.sec.toNat + 1 := by bv_omega
    have hwrap : t.totalSeconds + 1 ≠ 512 * 24 * 60 * 60 := by
      simp only [totalSeconds, totalMinutes, totalHours]
      omega
    refine ⟨?_, (or_iff_left hwrap).symm, hnext.trans_lt (by omega), hmin, hhour⟩
    simp only [totalSeconds, totalMinutes, totalHours, hnext]
    omega

theorem totalSeconds_eq (t : Rtc) : t.totalSeconds =
    t.day.toNat * 86400 + t.hour.toNat * 3600 + t.min.toNat * 60 + t.sec.toNat := by
  unfold totalSeconds totalMinutes totalHours
  omega

end Rtc

/-- Settles O56: in its ranges the clock's count of seconds moves on by one; a field out of range is none the
next one is carried from. -/
theorem rtcCounts : Obligations.RtcCounts := by
  intro m
  dsimp only
  unfold Mbc3.clockTick
  refine ⟨fun hhalt => if_pos hhalt, fun hrun hsub => ?_,
    fun hrun hsub => ⟨m.rtc.addSecond, ?_, ?_, ?_, ?_, ?_, ?_⟩⟩
  · have hne : m.sub + 1 ≠ Config.clockFrequency := hsub.ne
    simp only [hrun, if_neg hne]
    rfl
  · have heq : m.sub + 1 = Config.clockFrequency := hsub
    simp only [hrun, if_pos heq]
    rfl
  · rw [Rtc.addSecond_halt, hrun]
  · intro hsec hmin hhour
    obtain ⟨hcount, hcarry, h1, h2, h3⟩ := Rtc.addSecond_advanced hsec hmin hhour
    rw [Rtc.totalSeconds_eq, Rtc.totalSeconds_eq] at hcount
    rw [Rtc.totalSeconds_eq] at hcarry
    exact ⟨hcount, h1, h2, h3, hcarry⟩
  · intro hsec
    have hne : m.rtc.sec + 1 ≠ 60 := by bv_omega
    rw [Rtc.addSecond, if_neg hne]
  · intro hsec hmin
    have heq : m.rtc.sec + 1 = 60 := by bv_omega
    have hne : m.rtc.min + 1 ≠ 60 := by bv_omega
    simp only [Rtc.addSecond, if_pos heq, Rtc.addMinute, if_neg hne]
  · intro hsec hmin hhour
    have hsec' : m.rtc.sec + 1 = 60 := by bv_omega
    have hmin' : m.rtc.min + 1 = 60 := by bv_omega
    have hne : m.rtc.hour + 1 ≠ 24 := by bv_omega
    simp only [Rtc.addSecond, if_pos hsec', Rtc.addMinute, if_pos hmin', Rtc.addHour, if_neg hne]

end Sys2Proof.Machine

namespace Sys2Proof.Machine

/-! ## The load checks (20_memory.md R172-R177) -/

/-- Rule R173: the RAM size codes the table does not know. -/
theorem ramSizeOf_eq_none_iff (code : Byte) : ramSizeOf code = none ↔ 5 < code.toNat := by
  revert code
  decide +kernel

/-- Rules R174, R177: the cartridge types without a mapper are those the list leaves out. -/
theorem mapperOf_eq_none_iff (code : Byte) : mapperOf code = none ↔
    code.toNat ∉ [0x00, 0x01, 0x02, 0x03, 0x05, 0x06, 0x08, 0x09, 0x0F, 0x10, 0x11, 0x12, 0x13, 0x19, 0x1A,
      0x1B, 0x1C, 0x1D, 0x1E] := by
  revert code
  decide +kernel

/-- Settles O57: each check fails a header the earlier ones pass. -/
theorem loadChecks : Obligations.LoadChecks := by
  intro rom mode en p
  dsimp only
  have hload (e : LoadFailure) (h : parseHeader rom = .error e) : load rom mode en p = .error e := by
    rw [load, h]
  split_ifs with htrunc hcode hlength hramCode htype
  · exact hload _ (if_pos htrunc)
  all_goals replace htrunc : ¬ rom.length < Config.headerEnd := htrunc
  · have hnone : romBanksOf (rom.header 0x148) = none := if_neg (by omega)
    exact hload _ (by simp only [parseHeader, if_neg htrunc, hnone])
  all_goals
    have hbanks : romBanksOf (rom.header 0x148) = some (2 * 2 ^ (rom.header 0x148).toNat) := if_pos (by omega)
    have hbytes : 2 * 2 ^ (rom.header 0x148).toNat * 0x4000 = 32768 * 2 ^ (rom.header 0x148).toNat := by omega
  · exact hload _ (by simp only [parseHeader, if_neg htrunc, hbanks, hbytes, if_pos hlength])
  · have hnone := (ramSizeOf_eq_none_iff _).2 hramCode
    exact hload _ (by simp only [parseHeader, if_neg htrunc, hbanks, hbytes, if_neg hlength, hnone])
  all_goals obtain ⟨ram, hram⟩ := Option.ne_none_iff_exists'.1 (mt (ramSizeOf_eq_none_iff _).1 hramCode)
  · obtain ⟨m, hm⟩ := Option.ne_none_iff_exists'.1 (mt (mapperOf_eq_none_iff _).1 (not_not.2 htype))
    refine ⟨_, load_ok_iff.2 ⟨_, ?_, rfl⟩, cartridgeOf_romBanks _ ram m⟩
    simp only [parseHeader, if_neg htrunc, hbanks, hbytes, if_neg hlength, hram, hm]
  · have hnone := (mapperOf_eq_none_iff _).2 htype
    exact hload _ (by simp only [parseHeader, if_neg htrunc, hbanks, hbytes, if_neg hlength, hram, hnone])

end Sys2Proof.Machine

namespace Sys2Proof.Machine

/-! ## The memory map (20_memory.md R143-R159, 10_state.md R44, R89) -/

section
variable {s : State} {a : Word}

/-- Rules R44, R145: a read of a register of every mode, as the number its bits are. -/
theorem State.busRead_reg (r : IoReg) {x : Byte} {k : Nat} (hread : s.ioRead a r = .value x)
    (hx : x.toNat = k) (hreg : ioReg .cgb a = r := by decide +kernel)
    (hpage : 0xFF00 ≤ a.toNat ∧ a.toNat < 0xFF80 := by decide) (hmode : r.everyMode = true := by decide) :
    s.busRead a = .value (BitVec.ofNat 8 k) := by
  rw [s.busRead_io (s.target_reg a r hreg hpage hmode), hread, eq_ofNat hx]

end

/-- Rule R47: SC as a number, its unused bits 1. -/
theorem Serial.toNat_readSc (x : Serial) :
    x.readSc.toNat = 0x7E + 128 * x.active.toNat + x.internal.toNat := by
  unfold Serial.readSc
  cases x.active <;> cases x.internal <;> rfl

/-- Rule R49: DIV is the high byte of the divider. -/
theorem Timer.toNat_div (t : Timer) : (hiByte t.sysclk).toNat = t.sysclk.toNat / 256 := by
  have := t.sysclk.isLt
  rw [hiByte, toNat_field]
  omega

/-- Rule R57: STAT as a number: bit 7 is 1, bits 6-3 the selects, then the LYC match and the mode. -/
theorem Ppu.toNat_readStat (p : Ppu) : p.readStat.toNat =
    128 + 8 * p.statSelect.toNat + 4 * p.lycMatch.toNat + p.mode.code.toNat := by
  unfold Ppu.readStat
  rw [toNat_append_add, toNat_append_add, toNat_append_add]
  cases p.lycMatch <;> simp <;> omega

/-- Rule R87: NR52 as a number. -/
theorem Apu.toNat_readNr52 (x : Apu) : x.readNr52.toNat =
    128 * x.power.toNat + 0x70 + 8 * x.ch4.on.toNat + 4 * x.ch3.on.toNat + 2 * x.ch2.on.toNat +
      x.ch1.on.toNat := by
  unfold Apu.readNr52
  cases x.power <;> cases x.ch4.on <;> cases x.ch3.on <;> cases x.ch2.on <;> cases x.ch1.on <;> rfl

/-- Rule R89: the mask of an NRx4 register leaves the length enable. -/
theorem toNat_lengthEnable (b : Bool) : ((0xBF : Byte) ||| bitAt b 6).toNat = 0xBF + 64 * b.toNat := by
  cases b <;> rfl

/-- Rule R89: the mask of NR30 leaves the DAC. -/
theorem toNat_dacOn (b : Bool) : ((0x7F : Byte) ||| bitAt b 7).toNat = 128 * b.toNat + 0x7F := by
  cases b <;> rfl

/-- Rule R89: the mask of NR11 and NR21 leaves the duty. -/
theorem toNat_duty (d : BitVec 2) : (d ++ 0x3F#6).toNat = 64 * d.toNat + 0x3F := by
  rw [toNat_append_add, Nat.mul_comm]
  rfl

/-- Rule R89: the mask of NR32 leaves the level. -/
theorem toNat_level (d : BitVec 2) : (0b1#1 ++ d ++ 0x1F#5).toNat = 0x9F + 32 * d.toNat := by
  rw [toNat_append_add, toNat_append_add]
  simp
  omega

/-- Rules R43, R52, R92: the unused high bits of a register read 1. -/
theorem toNat_ones_append {m n : Nat} (x : BitVec n) :
    (BitVec.allOnes m ++ x).toNat = (2 ^ m - 1) * 2 ^ n + x.toNat := by
  rw [toNat_append_add, BitVec.toNat_allOnes]

/-- Rules R151, R152: the switchable WRAM bank is SVBK's in CGB mode, and bank 1 stands for bank 0. -/
theorem wramBank_eq (m : ConsoleMode) (svbk : BitVec 3) :
    wramBank m svbk = if m = .cgb ∧ svbk ≠ 0 then svbk.toNat else 1 := by
  cases m with
  | dmg | sgb => rfl
  | cgb => by_cases h : svbk = 0 <;> simp [wramBank, h]

/-- Rule R92: SVBK is a register of CGB mode alone. -/
theorem State.target_svbk (s : State) : s.target 0xFF70 = .io (if s.model = .cgb then .svbk else .unmapped) := by
  refine State.target_eq_io_iff.2 ⟨by decide, ?_⟩
  cases s.model <;> decide +kernel

/-- Rule R88: the bytes of wave RAM. -/
theorem State.target_wave (s : State) {a : Word} (hlo : 0xFF30 ≤ a.toNat) (hhi : a.toNat ≤ 0xFF3F) :
    s.target a = .io (.wave (a.toNat - 0xFF30)) := by
  refine State.target_eq_io_iff.2 ⟨by omega, ?_⟩
  refine ioPage_forall (P := fun a => 0xFF30 ≤ a.toNat → a.toNat ≤ 0xFF3F →
    ioReg s.model a = .wave (a.toNat - 0xFF30)) ?_ (by omega) (by omega) hlo hhi
  cases s.model <;> decide +kernel

/-- Rule R57: the mode as its number. -/
theorem PpuMode.toNat_code (x : PpuMode) : x.code.toNat =
    match x with
    | .hblank => 0
    | .vblank => 1
    | .oamScan => 2
    | .transfer => 3 := by
  cases x <;> rfl

/-- Settles O40: each region by what its addresses reach, each register by its stored bits over its mask. -/
theorem memoryMap : Obligations.MemoryMap := by
  intro s a hidle
  have hread := s.busRead_of_free (s.busTaken_of_idle hidle a)
  unfold State.regionRead at hread
  refine ⟨fun h => ?_, fun hlo hhi => ?_, fun hlo hhi hopen => ?_, fun hlo hhi => ?_, fun hlo hhi => ?_,
    fun hlo hhi => ?_, fun hlo hhi => ?_, fun hlo hhi hopen => ?_, fun hlo hhi => ?_, fun h => ?_,
    fun hlo hhi => ?_, fun h => ?_, ?_⟩
  · rw [s.busRead_rom hidle (by omega), romRead, Cartridge.romOffset, if_pos h]
  · rw [s.busRead_rom hidle hhi, romRead, Cartridge.romOffset, if_neg (Nat.not_lt.2 hlo)]
  · have hblocked : s.vramBlocked = false := hopen
    rw [hread, s.target_vram hlo hhi, hblocked]
    rfl
  · rw [hread, s.target_cartRam hlo hhi]
  · rw [hread, s.target_wram hlo (by omega), wramOffset, if_pos hhi]
  · rw [hread, s.target_wram (by omega) hhi, wramOffset, if_neg (Nat.not_lt.2 hlo), wramBank_eq]
  · rw [hread, s.busRead_of_free (s.busTaken_of_idle hidle _), State.regionRead, s.target_echo hlo hhi,
      s.target_wram (a := a - 0x2000) (by bv_omega) (by bv_omega)]
  · have hblocked : s.oamBlocked = false := hopen
    rw [hread, s.target_oam hlo hhi, hblocked]
    rfl
  · rw [hread, s.target_hram hlo hhi]
  · rw [hread, State.target_eq_ie_iff.2 h]
  · rw [s.busRead_io (s.target_wave hlo hhi), State.ioRead]
  · subst h
    rw [s.busRead_io s.target_svbk]
    cases hm : s.model with
    | cgb => exact congrArg ReadResult.value (eq_ofNat (toNat_ones_append (m := 5) s.svbk))
    | dmg | sgb => rfl
  · dsimp only
    simp only [List.forall_mem_cons, List.not_mem_nil, false_imp_iff, implies_true, and_true]
    exact ⟨State.busRead_reg .sb rfl rfl, State.busRead_reg .sc rfl s.serial.toNat_readSc,
      State.busRead_reg .div rfl s.timer.toNat_div,
      State.busRead_reg .tima rfl rfl, State.busRead_reg .tma rfl rfl,
      State.busRead_reg .tac rfl (toNat_ones_append (m := 5) s.timer.tac),
      State.busRead_reg .iflag rfl (toNat_ones_append (m := 3) s.ints.iflag),
      State.busRead_reg .nr10 rfl (toNat_ones_append (m := 1) s.apu.sweep.nr10),
      State.busRead_reg .nr11 rfl (toNat_duty _), State.busRead_reg .nr12 rfl rfl,
      State.busRead_reg .nr13 rfl rfl, State.busRead_reg .nr14 rfl (toNat_lengthEnable _),
      State.busRead_reg .nr21 rfl (toNat_duty _), State.busRead_reg .nr22 rfl rfl,
      State.busRead_reg .nr23 rfl rfl, State.busRead_reg .nr24 rfl (toNat_lengthEnable _),
      State.busRead_reg .nr30 rfl (toNat_dacOn _), State.busRead_reg .nr31 rfl rfl,
      State.busRead_reg .nr32 rfl (toNat_level _), State.busRead_reg .nr33 rfl rfl,
      State.busRead_reg .nr34 rfl (toNat_lengthEnable _), State.busRead_reg .nr41 rfl rfl,
      State.busRead_reg .nr42 rfl rfl, State.busRead_reg .nr43 rfl rfl,
      State.busRead_reg .nr44 rfl (toNat_lengthEnable _), State.busRead_reg .nr50 rfl rfl,
      State.busRead_reg .nr51 rfl rfl, State.busRead_reg .nr52 rfl s.apu.toNat_readNr52,
      State.busRead_reg .lcdc rfl rfl,
      State.busRead_reg .stat rfl (s.ppu.toNat_readStat.trans (congrArg _ s.ppu.mode.toNat_code)),
      State.busRead_reg .scy rfl rfl, State.busRead_reg .scx rfl rfl,
      s.busRead_io (s.target_reg 0xFF44 .ly), State.busRead_reg .lyc rfl rfl,
      State.busRead_reg .dma rfl rfl, State.busRead_reg .bgp rfl rfl, State.busRead_reg .obp0 rfl rfl,
      State.busRead_reg .obp1 rfl rfl, State.busRead_reg .wy rfl rfl, State.busRead_reg .wx rfl rfl⟩

end Sys2Proof.Machine

namespace Sys2Proof.Machine

/-! ## Stores to the registers (20_memory.md R146, R147, R157, R160) -/

/-- Rules R180-R198: a control write changes the mapper alone. -/
theorem Cartridge.control_frame (c : Cartridge) (a : Word) (v : Byte) :
    c.control a v = { c with mapper := (c.control a v).mapper } := by
  unfold Cartridge.control
  cases c.mapper <;> rfl

/-- Rules R49-R53: the register is the timer's. -/
def IoReg.isTimer : IoReg → Bool
  | .div | .tima | .tma | .tac => true
  | _ => false

/-- Rules R70-R87, R91: the register is the APU's, or has no storage. -/
def IoReg.isApu : IoReg → Bool
  | .nr10 | .nr11 | .nr12 | .nr13 | .nr14 | .nr21 | .nr22 | .nr23 | .nr24 | .nr30 | .nr31 | .nr32 | .nr33
  | .nr34 | .nr41 | .nr42 | .nr43 | .nr44 | .nr50 | .nr51 | .nr52 | .unmapped => true
  | _ => false

/-- Rules R56-R64: the register is the PPU's. -/
def IoReg.isPpu : IoReg → Bool
  | .lcdc | .stat | .scy | .scx | .ly | .lyc | .bgp | .obp0 | .obp1 | .wy | .wx => true
  | _ => false

section
variable (s : State) {a : Word} (v : Byte)

theorem State.storeByte_timer (hlo : 0xFF04 ≤ a.toNat) (hhi : a.toNat ≤ 0xFF07) :
    s.storeByte a v = { s with timer := (s.storeByte a v).timer } := by
  have hreg : (ioReg s.model a).isTimer = true :=
    ioPage_forall (P := fun a => 0xFF04 ≤ a.toNat → a.toNat ≤ 0xFF07 → (ioReg s.model a).isTimer = true)
      (by cases s.model <;> decide +kernel) (by omega) (by omega) hlo hhi
  rw [s.storeByte_io (State.target_eq_io_iff.2 ⟨by omega, rfl⟩)]
  cases hr : ioReg s.model a <;> rw [hr] at hreg
  case div | tima | tma | tac => rfl
  all_goals cases hreg

theorem State.storeByte_apu (hlo : 0xFF10 ≤ a.toNat) (hhi : a.toNat ≤ 0xFF26) :
    s.storeByte a v = { s with apu := (s.storeByte a v).apu } := by
  have hreg : (ioReg s.model a).isApu = true :=
    ioPage_forall (P := fun a => 0xFF10 ≤ a.toNat → a.toNat ≤ 0xFF26 → (ioReg s.model a).isApu = true)
      (by cases s.model <;> decide +kernel) (by omega) (by omega) hlo hhi
  rw [s.storeByte_io (State.target_eq_io_iff.2 ⟨by omega, rfl⟩)]
  cases hr : ioReg s.model a <;> rw [hr] at hreg
  case nr10 | nr11 | nr12 | nr13 | nr14 | nr21 | nr22 | nr23 | nr24 | nr30 | nr31 | nr32 | nr33 | nr34 |
      nr41 | nr42 | nr43 | nr44 | nr50 | nr51 | nr52 | unmapped => rfl
  all_goals cases hreg

theorem State.storeByte_ppu (hlo : 0xFF40 ≤ a.toNat) (hhi : a.toNat ≤ 0xFF4B) (hdma : a ≠ 0xFF46) :
    s.storeByte a v = { s with ppu := (s.storeByte a v).ppu } := by
  have hreg : (ioReg s.model a).isPpu = true :=
    ioPage_forall
      (P := fun a => 0xFF40 ≤ a.toNat → a.toNat ≤ 0xFF4B → a ≠ 0xFF46 → (ioReg s.model a).isPpu = true)
      (by cases s.model <;> decide +kernel) (by omega) (by omega) hlo hhi hdma
  rw [s.storeByte_io (State.target_eq_io_iff.2 ⟨by omega, rfl⟩)]
  cases hr : ioReg s.model a <;> rw [hr] at hreg
  case lcdc | stat | scy | scx | ly | lyc | bgp | obp0 | obp1 | wy | wx => rfl
  all_goals cases hreg

end

/-! ### The fields a write stores, as numbers (65_apu.md R606-R611, R621) -/

/-- Rule R9: a bit field is the number of its bits. -/
theorem field_eq_ofNat {n : Nat} (x : BitVec n) (start len : Nat) {k : Nat}
    (h : x.toNat / 2 ^ start % 2 ^ len = k) : x.extractLsb' start len = BitVec.ofNat len k :=
  eq_ofNat ((toNat_field x start len).trans h)

theorem periodLow_eq (p : BitVec 11) (v : Byte) :
    periodLow p v = BitVec.ofNat 11 (p.toNat / 256 * 256 + v.toNat) := by
  have := p.isLt
  refine eq_ofNat ((toNat_append_add _ _).trans ?_)
  rw [toNat_field]
  omega

theorem periodHigh_eq (p : BitVec 11) (v : Byte) :
    periodHigh p v = BitVec.ofNat 11 (v.toNat % 8 * 256 + p.toNat % 256) := by
  refine eq_ofNat ((toNat_append_add _ _).trans ?_)
  rw [toNat_field, toNat_field]
  omega

theorem envelopeDac_eq (v : Byte) : envelopeDac v = decide (v.toNat / 8 ≠ 0) := by
  have := v.isLt
  rw [envelopeDac, field_eq_ofNat v 3 5 (k := v.toNat / 8) (by omega), Bool.eq_iff_iff, bne_iff_ne,
    decide_eq_true_iff, Ne, Ne, ← BitVec.toNat_inj, BitVec.toNat_ofNat]
  simp
  omega

theorem loadLength64_eq (v : Byte) : loadLength64 v = 64 - v.toNat % 64 := by
  rw [loadLength64, toNat_field]
  norm_num

/-- Rule R607: how often an NRx4 write clocks the length: once when it turns the length enable on while the
next frame-sequencer step clocks none. -/
def Apu.extraLength (x : Apu) (v : Byte) (en : Bool) (length : Nat) : Nat :=
  if en = false ∧ v.getLsbD 6 = true ∧ x.fsStep % 2 = 1 ∧ 0 < length then 1 else 0

/-- Rule R607: the extra clock of a write without a trigger turns the channel off where it was the last. -/
theorem Apu.extraClock_eq (x : Apu) (en on : Bool) (length : Nat) {v : Byte} (hv : v.getLsbD 7 = false) :
    extraClock en x.fsOdd on length v = (length - x.extraLength v en length,
      on && decide (x.extraLength v en length = 0 ∨ length ≠ 1)) := by
  have hcond : (!en && v.getLsbD 6 && x.fsStep % 2 == 1 && length != 0) = true ↔
      en = false ∧ v.getLsbD 6 = true ∧ x.fsStep % 2 = 1 ∧ 0 < length := by
    simp [and_assoc, Nat.pos_iff_ne_zero]
  unfold extraClock Apu.fsOdd Apu.extraLength
  rw [if_congr hcond rfl rfl]
  by_cases h : en = false ∧ v.getLsbD 6 = true ∧ x.fsStep % 2 = 1 ∧ 0 < length
  · have hlast : (length - 1 != 0) = decide (length ≠ 1) := by
      have := h.2.2.2
      rw [Bool.eq_iff_iff, bne_iff_ne, decide_eq_true_iff]
      omega
    simp only [if_pos h, hv, hlast, Bool.or_false, one_ne_zero, false_or]
  · simp only [if_neg h, Nat.sub_zero, true_or, decide_true, Bool.and_true]

theorem Pulse.writeLength_eq (c : Pulse) (v : Byte) : c.writeLength v =
    { c with duty := BitVec.ofNat 2 (v.toNat / 64), length := 64 - v.toNat % 64 } := by
  have := v.isLt
  rw [Pulse.writeLength, loadLength64_eq, field_eq_ofNat v 6 2 (k := v.toNat / 64) (by omega)]

theorem Pulse.writeEnvelope_eq (c : Pulse) (v : Byte) : c.writeEnvelope v =
    { c with envelope := v, on := c.on && decide (v.toNat / 8 ≠ 0) } := by
  rw [Pulse.writeEnvelope, envelopeDac_eq]

theorem Noise.writeEnvelope_eq (c : Noise) (v : Byte) : c.writeEnvelope v =
    { c with envelope := v, on := c.on && decide (v.toNat / 8 ≠ 0) } := by
  rw [Noise.writeEnvelope, envelopeDac_eq]

section
variable (x : Apu) {v : Byte} (hv : v.getLsbD 7 = false)
include hv

theorem Pulse.writeControl_eq (c : Pulse) : c.writeControl x.fsOdd v =
    { c with
      lenEn := v.getLsbD 6
      period := BitVec.ofNat 11 (v.toNat % 8 * 256 + c.period.toNat % 256)
      length := c.length - x.extraLength v c.lenEn c.length
      on := c.on && decide (x.extraLength v c.lenEn c.length = 0 ∨ c.length ≠ 1) } := by
  simp only [Pulse.writeControl, Pulse.storeControl, hv, Bool.false_eq_true, if_false,
    x.extraClock_eq _ _ _ hv, periodHigh_eq]

theorem Wave.writeControl_eq (c : Wave) : c.writeControl x.fsOdd v =
    { c with
      lenEn := v.getLsbD 6
      period := BitVec.ofNat 11 (v.toNat % 8 * 256 + c.period.toNat % 256)
      length := c.length - x.extraLength v c.lenEn c.length
      on := c.on && decide (x.extraLength v c.lenEn c.length = 0 ∨ c.length ≠ 1) } := by
  simp only [Wave.writeControl, Wave.storeControl, hv, Bool.false_eq_true, if_false,
    x.extraClock_eq _ _ _ hv, periodHigh_eq]

theorem Noise.writeControl_eq (c : Noise) : c.writeControl x.fsOdd v =
    { c with
      lenEn := v.getLsbD 6
      length := c.length - x.extraLength v c.lenEn c.length
      on := c.on && decide (x.extraLength v c.lenEn c.length = 0 ∨ c.length ≠ 1) } := by
  simp only [Noise.writeControl, Noise.storeControl, hv, Bool.false_eq_true, if_false,
    x.extraClock_eq _ _ _ hv]

/-- Rule R608: without a trigger NR14 is channel 1's alone. -/
theorem Apu.writeNr14_eq : x.writeNr14 v = { x with ch1 := x.ch1.writeControl x.fsOdd v } := by
  simp only [Apu.writeNr14, hv, Bool.false_eq_true, if_false]

end

/-- Rule R615: NR10 stores seven bits. -/
theorem Apu.writeNr10_eq (x : Apu) (v : Byte) : x.writeNr10 v =
    { x with
      sweep := { x.sweep with nr10 := BitVec.ofNat 7 (v.toNat % 128) }
      ch1 := { x.ch1 with
        on := x.ch1.on && !(x.sweep.negated && x.sweep.nr10.getLsbD 3 && !v.getLsbD 3) } } := by
  rw [Apu.writeNr10, field_eq_ofNat v 0 7 (k := v.toNat % 128) (by norm_num)]

/-- Rules R602, R680: an I/O write of an APU register is the APU's; one without storage is ignored. -/
theorem State.ioWrite_apu (s : State) {r : IoReg} (v : Byte) (h : r.isApu = true) :
    (s.ioWrite r v).apu = s.apu.write s.isCgb r v := by
  cases r
  case nr10 | nr11 | nr12 | nr13 | nr14 | nr21 | nr22 | nr23 | nr24 | nr30 | nr31 | nr32 | nr33 | nr34 |
      nr41 | nr42 | nr43 | nr44 | nr50 | nr51 | nr52 => rfl
  case unmapped =>
    simp only [Apu.write, reduceCtorEq, if_false, Apu.writeOn, Apu.writeOff]
    split_ifs <;> rfl
  all_goals cases h

/-- Rule R680: a write of an APU register with the power on, where the register's own write is known. -/
theorem State.storeByte_apuOn {s : State} {a b : Word} {v : Byte} {y : Apu} (r : IoReg)
    (hp : s.apu.power = true) (ha : a = b) (hy : s.apu.writeOn r v = y)
    (hreg : ioReg .cgb b = r := by decide +kernel)
    (hpage : 0xFF00 ≤ b.toNat ∧ b.toNat < 0xFF80 := by decide) (hmode : r.everyMode = true := by decide)
    (hr : (r.isApu && r != .nr52) = true := by decide) : (s.storeByte a v).apu = y := by
  subst ha hy
  obtain ⟨hapu, hne⟩ : r.isApu = true ∧ r ≠ .nr52 := by simpa using hr
  rw [s.storeByte_io (s.target_reg a r hreg hpage hmode), s.ioWrite_apu v hapu, Apu.write, if_neg hne,
    if_pos hp]

/-- Rule R602: an NR52 write turns the power on from off, or keeps it, or turns it off. -/
theorem Apu.writeNr52_eq (x : Apu) (cgb : Bool) (v : Byte) : x.writeNr52 cgb v =
    if x.power = false ∧ v.getLsbD 7 = true then x.powerOn
    else if x.power = v.getLsbD 7 then x
    else x.writeNr52 cgb v := by
  unfold Apu.writeNr52
  cases x.power <;> cases v.getLsbD 7 <;> rfl

/-- Rule R193: DL is the low eight bits of the day counter. -/
theorem Rtc.write_dayLow (t : Rtc) (v : Byte) : t.write v .dayLow =
    { t with day := BitVec.ofNat 9 (t.day.toNat / 256 * 256 + v.toNat) } := by
  have := t.day.isLt
  refine congrArg (fun d : BitVec 9 => { t with day := d }) (eq_ofNat ((toNat_append_add _ _).trans ?_))
  rw [toNat_field]
  omega

/-- Rule R193: DH is bit 8 of the day counter, the halt bit and the carry. -/
theorem Rtc.write_dayHigh (t : Rtc) (v : Byte) : t.write v .dayHigh =
    { t with
      day := BitVec.ofNat 9 (v.toNat % 2 * 256 + t.day.toNat % 256)
      halt := v.getLsbD 6
      carry := v.getLsbD 7 } := by
  refine congrArg (fun d : BitVec 9 => { t with day := d, halt := v.getLsbD 6, carry := v.getLsbD 7 })
    (eq_ofNat ((toNat_append_add _ _).trans ?_))
  rw [toNat_field, toNat_field]
  omega

/-- Rules R191, R193: a clock register is no RAM bank. -/
theorem four_le_of_rtcReg {select : Byte} {r : RtcReg} (h : rtcReg? select = some r) : 4 ≤ select.toNat := by
  unfold rtcReg? at h
  split_ifs at h <;> subst select <;> decide

/-- Rule R193: a CPU write to a selected clock register of MBC3. -/
theorem State.storeByte_clock (s : State) {a : Word} (v : Byte) {m : Mbc3} {r : RtcReg}
    (ht : s.target a = .cartRam a) (hm : s.cart.mapper = .mbc3 m) (henable : m.ramEnable = true)
    (hrtc : m.hasRtc = true) (hselect : rtcReg? m.select = some r) :
    s.storeByte a v = { s with cart := { s.cart with mapper := .mbc3 (m.clockWrite r v) } } := by
  have hbank := Nat.not_lt.2 (four_le_of_rtcReg hselect)
  have htarget : s.cart.ramTarget a = .clock r := by
    simp only [Cartridge.ramTarget, hm, henable, if_true, Cartridge.mbc3Target, if_neg hbank, hrtc, hselect]
  simp only [State.storeByte, ht, cartRamControl, cartRamStore, htarget, Cartridge.clockWrite, hm]

/-- Settles O39: a write is its register's, which stores the bits as the numbers its rule gives; below 0x8000
and at a selected clock register it is the mapper's. -/
theorem storeTouchesOneDevice : Obligations.StoreTouchesOneDevice := by
  intro s a v
  have reg (r : IoReg) (b : Word) (hb : a = b) (hreg : ioReg .cgb b = r := by decide +kernel)
      (hpage : 0xFF00 ≤ b.toNat ∧ b.toNat < 0xFF80 := by decide) (hmode : r.everyMode = true := by decide) :
      s.storeByte a v = s.ioWrite r v := hb ▸ s.storeByte_io (s.target_reg b r hreg hpage hmode) v
  refine ⟨fun h => ?_, fun h => reg .p1 _ h, ?_, s.storeByte_timer v, fun h => reg .iflag _ h,
    s.storeByte_apu v, fun hlo hhi => ?_, s.storeByte_ppu v, fun h => ?_, fun h => ?_,
    fun h => congrArg State.serial (reg .sb _ h), fun h => ?_, fun h => ?_,
    fun h => congrArg State.ppu (reg .scy _ h), fun h => congrArg State.ppu (reg .scx _ h),
    fun h => congrArg State.ppu (reg .lyc _ h), fun h => congrArg State.ppu (reg .bgp _ h),
    fun h => congrArg State.ppu (reg .obp0 _ h), fun h => congrArg State.ppu (reg .obp1 _ h),
    fun h => congrArg State.ppu (reg .wy _ h), fun h => congrArg State.ppu (reg .wx _ h), ?_,
    fun m hlo hhi hm henable hrtc => ?_⟩
  · rw [State.storeByte, s.target_rom h]
    exact congrArg (fun c => { s with cart := c }) (s.cart.control_frame a v)
  · rintro (h | h)
    · rw [reg .sb _ h]; rfl
    · rw [reg .sc _ h]; rfl
  · rw [s.storeByte_io (s.target_wave hlo hhi)]
    rfl
  · rw [reg .dma _ h]
    rfl
  · subst h
    rw [s.storeByte_io s.target_svbk]
    by_cases hm : s.model = .cgb
    · rw [if_pos hm, if_pos hm]; rfl
    · rw [if_neg hm, if_neg hm]; rfl
  · rw [reg .sc _ h]
    simp only [State.ioWrite, State.withSerial_serial, Serial.writeSc]
  · rw [reg .stat _ h]
    have hselect : v.extractLsb' 3 4 = BitVec.ofNat 4 (v.toNat / 8 % 16) := field_eq_ofNat v 3 4 (by norm_num)
    exact congrArg (fun x => { s.ppu with statSelect := x }) hselect
  · have hlevel : v.extractLsb' 5 2 = BitVec.ofNat 2 (v.toNat / 32 % 4) := field_eq_ofNat v 5 2 (by norm_num)
    have ch1 {c d : Pulse} (h : c = d) : { s.apu with ch1 := c } = { s.apu with ch1 := d } := h ▸ rfl
    have ch2 {c d : Pulse} (h : c = d) : { s.apu with ch2 := c } = { s.apu with ch2 := d } := h ▸ rfl
    have ch3 {c d : Wave} (h : c = d) : { s.apu with ch3 := c } = { s.apu with ch3 := d } := h ▸ rfl
    have ch4 {c d : Noise} (h : c = d) : { s.apu with ch4 := c } = { s.apu with ch4 := d } := h ▸ rfl
    refine ⟨fun h => ?_, fun hp =>
      ⟨fun h => State.storeByte_apuOn .nr10 hp h (s.apu.writeNr10_eq v),
      fun h => State.storeByte_apuOn .nr11 hp h (ch1 (s.apu.ch1.writeLength_eq v)),
      fun h => State.storeByte_apuOn .nr21 hp h (ch2 (s.apu.ch2.writeLength_eq v)),
      fun h => State.storeByte_apuOn .nr31 hp h rfl,
      fun h => State.storeByte_apuOn .nr41 hp h (ch4 (by rw [loadLength64_eq])),
      fun h => State.storeByte_apuOn .nr12 hp h (ch1 (s.apu.ch1.writeEnvelope_eq v)),
      fun h => State.storeByte_apuOn .nr22 hp h (ch2 (s.apu.ch2.writeEnvelope_eq v)),
      fun h => State.storeByte_apuOn .nr42 hp h (ch4 (s.apu.ch4.writeEnvelope_eq v)),
      fun h => State.storeByte_apuOn .nr13 hp h (ch1 (by rw [periodLow_eq])),
      fun h => State.storeByte_apuOn .nr23 hp h (ch2 (by rw [periodLow_eq])),
      fun h => State.storeByte_apuOn .nr33 hp h (ch3 (by rw [periodLow_eq])),
      fun h => State.storeByte_apuOn .nr30 hp h rfl,
      fun h => State.storeByte_apuOn .nr32 hp h (ch3 (by rw [hlevel])),
      fun h => State.storeByte_apuOn .nr43 hp h rfl,
      fun h => State.storeByte_apuOn .nr50 hp h rfl,
      fun h => State.storeByte_apuOn .nr51 hp h rfl, fun hv =>
        ⟨fun h => State.storeByte_apuOn .nr14 hp h
          ((s.apu.writeNr14_eq hv).trans (ch1 (s.apu.ch1.writeControl_eq s.apu hv))),
        fun h => State.storeByte_apuOn .nr24 hp h (ch2 (s.apu.ch2.writeControl_eq s.apu hv)),
        fun h => State.storeByte_apuOn .nr34 hp h (ch3 (s.apu.ch3.writeControl_eq s.apu hv)),
        fun h => State.storeByte_apuOn .nr44 hp h (ch4 (s.apu.ch4.writeControl_eq s.apu hv))⟩⟩⟩
    rw [congrArg State.apu (reg .nr52 _ h)]
    exact s.apu.writeNr52_eq s.isCgb v
  · have clock {r : RtcReg} (hselect : rtcReg? m.select = some r) :=
      s.storeByte_clock v (s.target_cartRam hlo hhi) hm henable hrtc hselect
    have hfield6 : v.extractLsb' 0 6 = BitVec.ofNat 6 (v.toNat % 64) := field_eq_ofNat v 0 6 (by norm_num)
    have hfield5 : v.extractLsb' 0 5 = BitVec.ofNat 5 (v.toNat % 32) := field_eq_ofNat v 0 5 (by norm_num)
    have hselect (k : Byte) (r : RtcReg) (h : m.select = k) (hk : rtcReg? k = some r := by rfl) :
        rtcReg? m.select = some r := h ▸ hk
    refine ⟨fun h => ?_, fun h => ?_, fun h => ?_, fun h => ?_, fun h => ?_⟩
    · rw [clock (hselect _ .seconds h), Mbc3.clockWrite, Rtc.write, hfield6]
    · rw [clock (hselect _ .minutes h), Mbc3.clockWrite, Rtc.write, hfield6]
    · rw [clock (hselect _ .hours h), Mbc3.clockWrite, Rtc.write, hfield5]
    · rw [clock (hselect _ .dayLow h), Mbc3.clockWrite, m.rtc.write_dayLow]
    · rw [clock (hselect _ .dayHigh h), Mbc3.clockWrite, m.rtc.write_dayHigh]

end Sys2Proof.Machine

/-! The encoding (30_encoding.md): displacements and their bytes, what the opcode table says about
encodings, what the decoder reads, and the step that runs what it fetches. -/

namespace Sys2Proof

/-! ## Displacements (30_encoding.md R223) -/

theorem dispOfByte_byteOfDisp {e : Int} (h : dispFits e = true) : dispOfByte (byteOfDisp e) = e := by
  rw [dispFits, Bool.and_eq_true, decide_eq_true_eq, decide_eq_true_eq] at h
  exact BitVec.toInt_ofInt_eq_self (by norm_num) h.1 (by omega)

@[simp] theorem byteOfDisp_dispOfByte (b : Byte) : byteOfDisp (dispOfByte b) = b := BitVec.ofInt_toInt

theorem dispFits_dispOfByte (b : Byte) : dispFits (dispOfByte b) = true := by
  have hlow : -128 ≤ b.toInt := BitVec.le_toInt b
  have hhigh : b.toInt < 128 := BitVec.toInt_lt
  rw [dispFits, dispOfByte, Bool.and_eq_true, decide_eq_true_eq, decide_eq_true_eq]
  omega

/-! ## Entries and their operands (30_encoding.md R220) -/

namespace Entry

/-- Rule R220: the bytes after the opcode that an entry's instruction has, of the two it is built from. -/
def operands (n1 n2 : Byte) (e : Entry) : List Byte := [n1, n2].take (e.length - 1)

variable (n1 n2 : Byte)

@[simp] theorem operands_plain (i : Instr) : (plain i).operands n1 n2 = [] := rfl
@[simp] theorem operands_imm8 (f : Byte → Instr) : (imm8 f).operands n1 n2 = [n1] := rfl
@[simp] theorem operands_disp (f : Int → Instr) : (disp f).operands n1 n2 = [n1] := rfl
@[simp] theorem operands_imm16 (f : Word → Instr) : (imm16 f).operands n1 n2 = [n1, n2] := rfl
@[simp] theorem operands_cbPrefix : cbPrefix.operands n1 n2 = [n1] := rfl

theorem length_pos (e : Entry) : 1 ≤ e.length := by cases e <;> simp [length]

theorem length_le (e : Entry) : e.length ≤ 3 := by cases e <;> simp [length]

theorem length_operands (e : Entry) : (e.operands n1 n2).length + 1 = e.length := by cases e <;> rfl

/-- Bytes enough for an entry's operands start with operands. -/
theorem exists_operands (e : Entry) {bs : List Byte} (h : e.length ≤ bs.length + 1) :
    ∃ n1 n2, bs = e.operands n1 n2 ++ bs.drop (e.length - 1) := by
  cases e with
  | plain i => exact ⟨0, 0, rfl⟩
  | imm8 f | disp f | cbPrefix =>
    cases bs with
    | nil => simp [length] at h
    | cons n1 bs => exact ⟨n1, 0, rfl⟩
  | imm16 f =>
    match bs, h with
    | n1 :: n2 :: bs, _ => exact ⟨n1, n2, rfl⟩
    | [_], h | [], h => simp [length] at h

/-- Rules R220, R223: the instructions of an entry are encoded as the opcode byte `op` and their operand's
bytes, and they are well formed, with a displacement when it fits. -/
inductive Encodes (op : Byte) : Entry → Prop
  | plain {i : Instr} (h : encode i = [op] ∧ i.wellFormed = true) : Encodes op (.plain i)
  | imm8 {f : Byte → Instr} (h : ∀ n, encode (f n) = [op, n] ∧ (f n).wellFormed = true) :
    Encodes op (.imm8 f)
  | disp {f : Int → Instr} (h : ∀ e, encode (f e) = [op, byteOfDisp e] ∧ (f e).wellFormed = dispFits e) :
    Encodes op (.disp f)
  | imm16 {f : Word → Instr}
    (h : ∀ nn, encode (f nn) = [op, loByte nn, hiByte nn] ∧ (f nn).wellFormed = true) :
    Encodes op (.imm16 f)
  | cbPrefix (h : ∀ n, encode (cbInstr n) = [op, n] ∧ (cbInstr n).wellFormed = true) :
    Encodes op .cbPrefix

theorem Encodes.build {op : Byte} {e : Entry} (h : e.Encodes op) :
    encode (e.build n1 n2) = op :: e.operands n1 n2 ∧ (e.build n1 n2).wellFormed = true := by
  cases h with
  | plain h => exact h
  | imm8 h | cbPrefix h => exact h n1
  | disp h =>
    obtain ⟨hcode, hwf⟩ := h (dispOfByte n1)
    exact ⟨by simpa [Entry.build] using hcode, hwf.trans (dispFits_dispOfByte n1)⟩
  | imm16 h =>
    obtain ⟨hcode, hwf⟩ := h (wordOf n2 n1)
    exact ⟨by simpa [Entry.build] using hcode, hwf⟩

end Entry

/-! ## The opcode table (30_encoding.md R230-R234) -/

/-- Rules R231, R234: every second byte of the CB map is an instruction's. -/
theorem cbInstr_encodes : ∀ n, encode (cbInstr n) = [0xCB, n] ∧ (cbInstr n).wellFormed = true := by decide

/-- Rules R230, R232: every entry of the opcode table is encoded with the byte it stands at; 0xCB leads to
the CB map. -/
theorem opcodeEntry_encodes (op : Byte) : (opcodeEntry op).Encodes op := by
  obtain ⟨k, hk, rfl⟩ : ∃ k < 256, op = BitVec.ofNat 8 k := ⟨op.toNat, op.isLt, by simp⟩
  obtain hlow | rfl | hhigh := lt_trichotomy k 0xCB
  · interval_cases k
    all_goals constructor; intros; exact ⟨rfl, rfl⟩
  · exact .cbPrefix cbInstr_encodes
  · interval_cases k
    all_goals constructor; intros; exact ⟨rfl, rfl⟩

theorem encode_build (op n1 n2 : Byte) :
    encode ((opcodeEntry op).build n1 n2) = op :: (opcodeEntry op).operands n1 n2 :=
  ((opcodeEntry_encodes op).build n1 n2).1

theorem wellFormed_build (op n1 n2 : Byte) : ((opcodeEntry op).build n1 n2).wellFormed = true :=
  ((opcodeEntry_encodes op).build n1 n2).2

theorem length_build (op n1 n2 : Byte) : ((opcodeEntry op).build n1 n2).length = (opcodeEntry op).length := by
  rw [Instr.length, encode_build, List.length_cons, Entry.length_operands]

/-! ## What the decoder reads (30_encoding.md R220) -/

/-- With its operands there, the decoder builds the instruction of the opcode's entry. -/
theorem decode_operands (op n1 n2 : Byte) (rest : List Byte) :
    decode (op :: ((opcodeEntry op).operands n1 n2 ++ rest)) =
      .ok ((opcodeEntry op).build n1 n2, rest) := by
  cases he : opcodeEntry op <;> simp [decode, he, Entry.length, Entry.build]

/-- With an operand missing, the decoder rejects by the opcode byte. -/
theorem decode_missing {op : Byte} {bs : List Byte} (h : bs.length + 1 < (opcodeEntry op).length) :
    decode (op :: bs) = .error (.missingOperand op) := by
  cases he : opcodeEntry op with
  | plain i => simp [he, Entry.length] at h
  | imm8 f | disp f | cbPrefix =>
    cases bs with
    | nil => simp [decode, he, Entry.length]
    | cons n1 bs => simp [he, Entry.length] at h
  | imm16 f =>
    match bs, h with
    | [], _ | [_], _ => simp [decode, he, Entry.length]
    | _ :: _ :: bs, h =>
      simp only [he, Entry.length, List.length_cons] at h
      omega

/-- What the decoder reads is built from an opcode byte and the operands of its entry. -/
theorem decode_ok {bs rest : List Byte} {i : Instr} (h : decode bs = .ok (i, rest)) :
    ∃ op n1 n2, i = (opcodeEntry op).build n1 n2 ∧
      bs = op :: ((opcodeEntry op).operands n1 n2 ++ rest) := by
  cases bs with
  | nil => cases h
  | cons op bs =>
    by_cases hlen : bs.length + 1 < (opcodeEntry op).length
    · rw [decode_missing hlen] at h
      cases h
    · obtain ⟨n1, n2, hbs⟩ := (opcodeEntry op).exists_operands (not_lt.1 hlen)
      rw [hbs, decode_operands] at h
      cases h
      exact ⟨op, n1, n2, rfl, congrArg _ hbs⟩

/-- Settles O2: what the decoder reads is the opcode table's, and the table's instructions are encoded with
the bytes they were built from. -/
theorem encodeOfDecode : Obligations.EncodeOfDecode := by
  intro bs rest i h
  obtain ⟨op, n1, n2, rfl, rfl⟩ := decode_ok h
  exact ⟨by rw [encode_build, List.cons_append], wellFormed_build op n1 n2⟩

/-- Settles O3: the length is that of the opcode's entry. -/
theorem lengthFromFirstByte : Obligations.LengthFromFirstByte := by
  intro op
  refine ⟨(opcodeEntry op).length, (opcodeEntry op).length_pos, (opcodeEntry op).length_le,
    fun bs => ⟨fun hlen => ?_, decode_missing⟩⟩
  obtain ⟨n1, n2, hbs⟩ := (opcodeEntry op).exists_operands hlen
  refine ⟨(opcodeEntry op).build n1 n2, ?_, length_build op n1 n2⟩
  exact (congrArg (decode <| op :: ·) hbs).trans (decode_operands op n1 n2 _)

/-! ## Decoding an encoding -/

theorem decode_disp {op : Byte} {f : Int → Instr} {e : Int} (rest : List Byte)
    (hentry : opcodeEntry op = .disp f) (he : dispFits e = true) :
    decode ([op, byteOfDisp e] ++ rest) = .ok (f e, rest) := by
  simpa [hentry, Entry.build, dispOfByte_byteOfDisp he] using decode_operands op (byteOfDisp e) 0 rest

theorem decode_imm16 {op : Byte} {f : Word → Instr} (nn : Word) (rest : List Byte)
    (hentry : opcodeEntry op = .imm16 f) :
    decode ([op, loByte nn, hiByte nn] ++ rest) = .ok (f nn, rest) := by
  simpa [hentry, Entry.build] using decode_operands op (loByte nn) (hiByte nn) rest

/-- Settles O1: a displacement is read back from its byte when it fits, `nn` from its two bytes; every
other operand is the byte itself, and the decoder computes the instruction. -/
theorem decodeOfEncode : Obligations.DecodeOfEncode := by
  intro i rest h
  cases i
  case jrE | jrNzE | jrZE | jrNcE | jrCE | addSpE | ldHlSpE => exact decode_disp rest rfl h
  case ldBcNn nn | ldDeNn nn | ldHlNn nn | ldSpNn nn | ldMnnSp nn | ldMnnA nn | ldAMnn nn | jpNn nn |
      jpNzNn nn | jpZNn nn | jpNcNn nn | jpCNn nn | callNn nn | callNzNn nn | callZNn nn |
      callNcNn nn | callCNn nn =>
    exact decode_imm16 nn rest rfl
  all_goals rfl

/-- Settles O4, by running the decoder on the ten words. -/
theorem sampleWords : Obligations.SampleWords := by
  unfold Obligations.SampleWords
  decide

/-- Every well-formed instruction is built by an entry of the opcode table. -/
theorem Instr.exists_build {i : Instr} (h : i.wellFormed = true) :
    ∃ op n1 n2, i = (opcodeEntry op).build n1 n2 := by
  obtain ⟨op, n1, n2, hi, -⟩ := decode_ok (decodeOfEncode i [] h)
  exact ⟨op, n1, n2, hi⟩

end Sys2Proof

namespace Sys2Proof.Machine

/-! ## The step that runs what it fetches (30_encoding.md R221, 66_orchestrator.md R690) -/

theorem State.operandAddr_zero (s : State) : s.operandAddr 0 = s.cpu.pc := by
  simp [State.operandAddr, wordAdd, fetchAdvance]

/-- Rule R221: the first of the bytes fetched is read at its own address, the others after it. -/
theorem fetchedFrom_cons {k : Nat} {s u : State} {b : Byte} {bs : List Byte} :
    FetchedFrom k s (b :: bs) u ↔ ∃ m, ReadsAs s (s.operandAddr k) b m ∧ FetchedFrom (k + 1) m bs u :=
  .rfl

/-- Rule R690: the bytes fetched do not depend on the cost counter. -/
theorem FetchedFrom.beginStep {k : Nat} {s u : State} {bs : List Byte} (h : FetchedFrom k s bs u) :
    FetchedFrom k s.beginStep bs u.beginStep := by
  induction bs generalizing k s with
  | nil => exact congrArg State.beginStep h
  | cons b bs ih =>
    obtain ⟨m, ⟨hread, rfl⟩ | ⟨hread, hv, rfl⟩, hrest⟩ := h
    · exact ⟨_, .inl ⟨hread, rfl⟩, ih hrest⟩
    · exact ⟨_, .inr ⟨hread, hv, rfl⟩, ih hrest⟩

/-- Rules R220, R221: fetching an opcode byte and the operands of its entry hands on what the entry
builds from them. -/
theorem fetchThen_build {α : Type} {s u : State} {op n1 n2 : Byte} (k : Instr → State → Answer α)
    (h : FetchedFrom 0 s (op :: (opcodeEntry op).operands n1 n2) u) :
    fetchThen s k = k ((opcodeEntry op).build n1 n2) u := by
  obtain ⟨m, hop, hrest⟩ := fetchedFrom_cons.1 h
  rw [s.operandAddr_zero] at hop
  rw [fetchThen, withRead_of_readsAs _ hop]
  generalize opcodeEntry op = entry at hrest ⊢
  cases entry with
  | plain i =>
    obtain rfl : u = m := hrest
    rfl
  | imm8 f | disp f | cbPrefix =>
    obtain ⟨v, hn1, rfl⟩ := fetchedFrom_cons.1 hrest
    exact withRead_of_readsAs _ hn1
  | imm16 f =>
    obtain ⟨v, hn1, hrest⟩ := fetchedFrom_cons.1 hrest
    obtain ⟨w, hn2, rfl⟩ := fetchedFrom_cons.1 hrest
    exact (withRead_of_readsAs _ hn1).trans (withRead_of_readsAs _ hn2)

/-- Rules R221, R405: a well-formed instruction whose bytes are fetched at PC is the one that runs. -/
theorem runInstr_of_fetched {s u : State} {i : Instr} (hwf : i.wellFormed = true)
    (h : FetchedFrom 0 s (encode i) u) :
    runInstr s = chain (exec i u) fun t => .next (t.promote s.cpu.imeDelay) := by
  obtain ⟨op, n1, n2, rfl⟩ := Instr.exists_build hwf
  rw [encode_build] at h
  rw [runInstr, fetchThen_build _ h]

theorem State.dispatches_eq_false {s : State} (h : s.cpu.ime = false ∨ s.ints.pending = 0) :
    s.dispatches = false := by
  rcases h with h | h <;> simp [State.dispatches, h]

/-- Rule R690: the CPU phase of an awake CPU with no dispatch due is one instruction. -/
theorem cpuPhase_awake {s : State} (hstopped : s.cpu.stopped = false) (hhalted : s.cpu.halted = false)
    (hdispatch : s.dispatches = false) : cpuPhase s = runInstr s.beginStep := by
  have hidles : s.beginStep.idles = false := by simp [State.idles, State.beginStep, hstopped, hhalted]
  have hawake : s.beginStep.cpu.halted = false := hhalted
  have hdue : s.beginStep.dispatches = false := hdispatch
  simp [cpuPhase, runAwake, hidles, hawake, hdue]

theorem step_of_no_fault {s : State} (h : s.fault = none) :
    step s = chain (cpuPhase s) fun t =>
      .next (endPhase s.cpu.stopped (devicePhase s.cpu.stopped t.stepCost t)) := by
  rw [step, runStep, h]

/-- Settles O5: the CPU phase runs the instruction fetched; the device and end phases follow its end. -/
theorem stepRunsDecoded : Obligations.StepRunsDecoded := by
  intro s u i hwf hfault hstopped hhalted hdue hfetched
  have hcpu : cpuPhase s = chain (exec i u.beginStep) fun t => .next (t.promote s.cpu.imeDelay) :=
    (cpuPhase_awake hstopped hhalted (State.dispatches_eq_false hdue)).trans
      (runInstr_of_fetched hwf hfetched.beginStep)
  have hstep := step_of_no_fault hfault
  rw [hcpu, hstopped] at hstep
  refine ⟨fun t ht => ?_, fun f hf => ?_, fun q hq => ?_⟩
  · have ht : exec i u.beginStep = .next t := ht
    rw [hstep, ht, chain_of_next, chain_of_next, promote_stepCost]
    rfl
  · exact hstep.trans (chain_fault.2 (.inl (chain_fault.2 (.inl hf))))
  · exact hstep.trans (chain_refused.2 (.inl (chain_refused.2 (.inl hq))))

end Sys2Proof.Machine

namespace Sys2Proof.Machine

/-! ## Frames of register updates (the words `Leaves`, `SpKept`, `FlagsKept` of Safety.lean)

An instruction's start leaves the frame `Leaves` with no register written; each register update after it
keeps the frame, once the registers it writes are listed. -/

section
variable {len cost : Nat} {dst : List Reg8} {s u t : State}

/-- Rules R33, R221, R402, R690: an instruction's start leaves its frame, with no register written, on
any state that has the CPU and the cost the instruction began with. -/
theorem leaves_startInstr (hcpu : u.cpu = s.cpu) (hcost : u.stepCost = s.stepCost) (len cost : Nat)
    (dst : List Reg8) : Leaves len cost dst s u (u.startInstr len cost) := by
  refine ⟨?_, ⟨?_, rfl⟩, fun r _ => ?_, ?_, rfl, fun _ => rfl⟩
  · rw [Passes, State.startInstr_cpu, hcpu]; rfl
  · rw [State.startInstr_stepCost, hcost]
  · rw [State.startInstr_reg8, State.reg8_of_cpu hcpu]
  · simp [ControlKept, hcpu]

/-- A register file that keeps PC, the control state and the registers outside `dst` keeps the frame. -/
theorem Leaves.withCpu (h : Leaves len cost dst s u t) {c : Cpu} (hpc : c.pc = t.cpu.pc)
    (hcontrol : (t.withCpu c).control = t.control) (hregs : ∀ r, r ∉ dst → c.reg8 r = t.reg8 r) :
    Leaves len cost dst s u (t.withCpu c) := by
  obtain ⟨hpasses, ⟨hcost, hbug⟩, hkept, ⟨hime, hdelay, hhalted, hstopped⟩, hout, hread⟩ := h
  simp only [State.control, State.withCpu_cpu, Prod.mk.injEq] at hcontrol
  obtain ⟨cime, cdelay, chalted, cbug, cstopped⟩ := hcontrol
  refine ⟨hpc.trans hpasses, ⟨hcost, cbug.trans hbug⟩, fun r hr => (hregs r hr).trans (hkept r hr),
    ⟨cime.trans hime, cdelay.trans hdelay, chalted.trans hhalted, cstopped.trans hstopped⟩, ?_, hread⟩
  rw [hout]
  rfl

theorem Leaves.setReg8 (h : Leaves len cost dst s u t) {r : Reg8} (hr : r ∈ dst) (v : Byte) :
    Leaves len cost dst s u (t.setReg8 r v) := by
  refine h.withCpu (Cpu.setReg8_pc _ r v) (State.setReg8_control t r v) fun q hq => ?_
  have hne : q ≠ r := fun he => hq (he ▸ hr)
  exact (State.reg8_setReg8 t v r q).trans (if_neg hne)

/-- Rule R30: the 8-bit registers a pair is made of; SP has none. -/
def Reg16.halves : Reg16 → List Reg8
  | .bc => [.b, .c]
  | .de => [.d, .e]
  | .hl => [.h, .l]
  | .sp => []

/-- Rules R30, R225: writing a pair changes no 8-bit register but its halves. -/
theorem State.reg8_setReg16 (s : State) {p : Reg16} {r : Reg8} (v : Word) (h : r ∉ Reg16.halves p) :
    (s.setReg16 p v).reg8 r = s.reg8 r := by
  cases p <;> cases r <;> simp [Reg16.halves] at h ⊢ <;> rfl

theorem Leaves.setReg16 (h : Leaves len cost dst s u t) {p : Reg16} (hp : Reg16.halves p ⊆ dst) (v : Word) :
    Leaves len cost dst s u (t.setReg16 p v) :=
  h.withCpu (Cpu.setReg16_pc _ p v) (State.setReg16_control t p v) fun _ hq =>
    State.reg8_setReg16 t v fun hmem => hq (hp hmem)

theorem Leaves.setSp (h : Leaves len cost dst s u t) (v : Word) : Leaves len cost dst s u (t.setSp v) :=
  h.withCpu rfl (State.setSp_control t v) fun r _ => State.setSp_reg8 t v r

@[simp] theorem State.reg8_setReg8_same (s : State) (r : Reg8) (v : Byte) : (s.setReg8 r v).reg8 r = v :=
  Cpu.reg8_setReg8_same s.cpu r v

@[simp] theorem State.reg16_setReg16_same (s : State) (p : Reg16) (v : Word) : (s.setReg16 p v).reg16 p = v :=
  Cpu.reg16_setReg16_same s.cpu p v

/-- Rules R30, R225: the pairs share no register. -/
theorem State.reg16_setReg16_ne (s : State) {p q : Reg16} (h : q ≠ p) (v : Word) :
    (s.setReg16 p v).reg16 q = s.reg16 q := by
  cases p <;> cases q <;> simp at h ⊢ <;> rfl

/-- Rules R32, R225: SP changes with the pair SP alone. -/
theorem Cpu.setReg16_sp_of_ne (c : Cpu) {p : Reg16} (h : p ≠ .sp) (v : Word) : (c.setReg16 p v).sp = c.sp := by
  cases p with
  | sp => exact absurd rfl h
  | bc | de | hl => rfl

end

/-! ## Loads of registers (40_load8.md R260, R263; 41_load16.md R290, R292) -/

theorem encode_ldRegReg (r q : Reg8) : encode (.ldRegReg r q) = [byte (0x40 + 8 * r.code + q.code)] := by
  cases r <;> cases q <;> rfl

theorem encode_ldRegImm (r : Reg8) (n : Byte) : encode (.ldRegImm r n) = [byte (0x06 + 8 * r.code), n] := by
  cases r <;> rfl

theorem encode_ldPairImm (p : Reg16) (nn : Word) :
    encode (.ldPairImm p nn) = [byte (0x01 + 16 * p.code), loByte nn, hiByte nn] := by
  cases p <;> rfl

theorem encode_ldRegMem (r : Reg8) : encode (.ldRegMem r) = [byte (0x46 + 8 * r.code)] := by
  cases r <;> rfl

theorem encode_ldMemReg (r : Reg8) : encode (.ldMemReg r) = [byte (0x70 + r.code)] := by
  cases r <;> rfl

/-- Rules R260, R263: a byte put into a register after an instruction's start. -/
theorem setReg8_startInstr_leaves (s : State) (len cost : Nat) (r : Reg8) (v : Byte) :
    ((s.startInstr len cost).setReg8 r v).reg8 r = v ∧ SpKept s ((s.startInstr len cost).setReg8 r v) ∧
      FlagsKept s ((s.startInstr len cost).setReg8 r v) ∧
      Leaves len cost [r] s s ((s.startInstr len cost).setReg8 r v) :=
  ⟨State.reg8_setReg8_same _ r v, Cpu.setReg8_sp _ r v, Cpu.setReg8_flags _ r v,
    (leaves_startInstr rfl rfl len cost [r]).setReg8 (List.mem_singleton_self r) v⟩

/-- Settles O16: each form is one register update after the instruction's start. -/
theorem loadRegisters : Obligations.LoadRegisters := by
  refine ⟨fun s r q => ⟨encode_ldRegReg r q, _, exec_ldRegReg s r q, setReg8_startInstr_leaves s 1 4 r _⟩,
    fun s r n => ⟨encode_ldRegImm r n, _, exec_ldRegImm s r n, setReg8_startInstr_leaves s 2 8 r n⟩,
    fun s p nn => ⟨encode_ldPairImm p nn, _, exec_ldPairImm s p nn, State.reg16_setReg16_same _ p nn,
      Cpu.setReg16_flags _ p nn, fun q hq => ?_, ?_⟩,
    fun s => ⟨rfl, _, exec_ldSpHl s, rfl, rfl, (leaves_startInstr rfl rfl 1 8 []).setSp _⟩⟩
  · rw [State.reg16_setReg16_ne _ hq, State.startInstr_reg16]
  · have hhalves : Reg16.halves p ⊆ [.b, .c, .d, .e, .h, .l] := by cases p <;> decide
    exact (leaves_startInstr rfl rfl 3 12 _).setReg16 hhalves nn

/-! ## Loads and stores of a byte of memory (40_load8.md R261, R262, R264-R274) -/

section
variable {i : Instr} {enc : List Byte} {addr : State → Word} {cost : Nat}

/-- An instruction that is `loadReg` after its start loads the byte at its address. -/
theorem loads_of_exec {r : Reg8} (henc : encode i = enc)
    (hexec : ∀ s, exec i s = loadReg r (addr s) (s.startInstr enc.length cost)) :
    Loads i enc r addr cost := by
  refine ⟨henc, fun s => ⟨fun v u hu => ?_, fun q hq => ?_⟩⟩
  · have hrun : exec i s = .next ((u.startInstr enc.length cost).setReg8 r v) :=
      (hexec s).trans (withRead_of_readsAs _ (hu.startInstr enc.length cost))
    refine ⟨_, hrun, State.reg8_setReg8_same _ r v, ?_, ?_,
      (leaves_startInstr hu.cpu hu.stepCost _ _ [r]).setReg8 (List.mem_singleton_self r) v⟩
    · simp [SpKept, hu.cpu]
    · simp [FlagsKept, hu.cpu]
  · exact (hexec s).trans (withRead_refused (s := s.startInstr enc.length cost) hq _)

/-- An instruction that is `writeByte` after its start stores its byte at its address. -/
theorem stores_of_exec {val : State → Byte} (henc : encode i = enc)
    (hexec : ∀ s, exec i s = writeByte (addr s) (val s) (s.startInstr enc.length cost)) :
    Stores i enc addr val cost := by
  refine ⟨henc, fun s => ⟨fun hnone => ?_, fun q hq => (hexec s).trans (writeByte_refused.2 hq)⟩⟩
  have hrun : exec i s = .next ((s.storeByte (addr s) (val s)).startInstr enc.length cost) := by
    rw [hexec, ← State.storeByte_startInstr]
    exact writeByte_of_none hnone
  have hcpu := State.storeByte_cpu s (addr s) (val s)
  exact ⟨_, hrun, by simp [SpKept], by simp [FlagsKept],
    leaves_startInstr hcpu (State.storeByte_stepCost s (addr s) (val s)) _ _ []⟩

end

/-- Settles O17: each form is the read of its address after the instruction's start. -/
theorem loadFromMemory : Obligations.LoadFromMemory :=
  ⟨fun r => loads_of_exec (encode_ldRegMem r) fun s => exec_ldRegMem s r,
    loads_of_exec rfl exec_ldAMbc, loads_of_exec rfl exec_ldAMde,
    fun nn => loads_of_exec rfl fun s => exec_ldAMnn s nn,
    fun n => loads_of_exec rfl fun s => highPage_eq n ▸ exec_ldhAMn s n,
    loads_of_exec rfl fun s => highPage_eq (s.reg8 .c) ▸ exec_ldhAMc s⟩

/-- Settles O18: each form is the write at its address after the instruction's start. -/
theorem storeByte : Obligations.StoreByte :=
  ⟨fun r => stores_of_exec (encode_ldMemReg r) fun s => exec_ldMemReg s r,
    fun n => stores_of_exec rfl fun s => exec_ldMhlN s n,
    stores_of_exec rfl exec_ldMbcA, stores_of_exec rfl exec_ldMdeA,
    fun nn => stores_of_exec rfl fun s => exec_ldMnnA s nn,
    fun n => stores_of_exec rfl fun s => highPage_eq n ▸ exec_ldhMnA s n,
    stores_of_exec rfl fun s => highPage_eq (s.reg8 .c) ▸ exec_ldhMcA s⟩

/-! ## Loads and stores that move HL on (40_load8.md R275-R278) -/

section
variable (s : State) (d : Word) (len cost : Nat)

/-- Rules R275, R276: A stored at the old HL, and HL moved on by `d`. -/
theorem storeAMove_startInstr :
    (s.writeRefusal s.hl (s.reg8 .a) = none → ∃ t, storeAMove d (s.startInstr len cost) = .next t ∧
      t.hl = s.hl + d ∧ SpKept s t ∧ FlagsKept s t ∧
      Leaves len cost [.h, .l] s (s.storeByte s.hl (s.reg8 .a)) t) ∧
    ∀ q, s.writeRefusal s.hl (s.reg8 .a) = some q →
      storeAMove d (s.startInstr len cost) = .refused q := by
  refine ⟨fun hnone => ?_, fun q hq => chain_refused.2 (.inl (writeByte_refused.2 hq))⟩
  have hrun : storeAMove d (s.startInstr len cost) =
      .next (((s.storeByte s.hl (s.reg8 .a)).startInstr len cost).setReg16 .hl (s.hl + d)) := by
    refine chain_next.2 ⟨_, writeByte_of_none hnone, ?_⟩
    simp [State.storeByte_startInstr, State.hl, State.reg16]
  have hcpu := State.storeByte_cpu s s.hl (s.reg8 .a)
  refine ⟨_, hrun, State.reg16_setReg16_same _ .hl _, ?_, ?_,
    (leaves_startInstr hcpu (State.storeByte_stepCost ..) len cost _).setReg16 (List.Subset.refl _) _⟩
  · simp [SpKept, Cpu.setReg16_sp_of_ne]
  · simp [FlagsKept]

/-- Rules R277, R278: the byte at the old HL put into A, and HL moved on by `d`. -/
theorem loadAMove_startInstr :
    (∀ v u, ReadsAs s s.hl v u → ∃ t, loadAMove d (s.startInstr len cost) = .next t ∧ t.reg8 .a = v ∧
      t.hl = s.hl + d ∧ SpKept s t ∧ FlagsKept s t ∧ Leaves len cost [.a, .h, .l] s u t) ∧
    ∀ q, s.busRead s.hl = .refused q → loadAMove d (s.startInstr len cost) = .refused q := by
  refine ⟨fun v u hu => ?_, fun q hq => withRead_refused (s := s.startInstr len cost) hq _⟩
  have hhl : u.hl = s.hl := by rw [State.hl, State.reg16, hu.cpu]; rfl
  have hrun : loadAMove d (s.startInstr len cost) =
      .next (((u.startInstr len cost).setReg8 .a v).setReg16 .hl (s.hl + d)) := by
    rw [loadAMove, State.startInstr_hl, withRead_of_readsAs _ (hu.startInstr len cost),
      State.startInstr_hl, hhl]
  refine ⟨_, hrun, rfl, State.reg16_setReg16_same _ .hl _, ?_, ?_,
    ((leaves_startInstr hu.cpu hu.stepCost len cost [.a, .h, .l]).setReg8 (by decide) v).setReg16
      (by decide) _⟩
  · simp [SpKept, Cpu.setReg16_sp_of_ne, hu.cpu]
  · simp [FlagsKept, hu.cpu]

end

/-- Settles O19: the four forms are one store and one load that move HL on by 1 or by -1. -/
theorem loadStoreMove : Obligations.LoadStoreMove := by
  refine ⟨?_, ?_⟩
  · rintro s i enc hl (⟨rfl, rfl, rfl⟩ | ⟨rfl, rfl, rfl⟩)
    · exact ⟨rfl, storeAMove_startInstr s 1 1 8⟩
    · exact ⟨rfl, BitVec.sub_eq_add_neg s.hl 1 ▸ storeAMove_startInstr s (-1) 1 8⟩
  · rintro s i enc hl (⟨rfl, rfl, rfl⟩ | ⟨rfl, rfl, rfl⟩)
    · exact ⟨rfl, loadAMove_startInstr s 1 1 8⟩
    · exact ⟨rfl, BitVec.sub_eq_add_neg s.hl 1 ▸ loadAMove_startInstr s (-1) 1 8⟩

end Sys2Proof.Machine

namespace Sys2Proof.Machine

/-! # 16-bit loads and the stack (41_load16.md R291, R293-R296; 43_alu16.md R343) -/

/-! ## Frames of flag and SP updates -/

theorem Leaves.setFlags {len cost : Nat} {dst : List Reg8} {s u t : State} (h : Leaves len cost dst s u t)
    (f : Flags) : Leaves len cost dst s u (t.setFlags f) :=
  h.withCpu rfl (State.setFlags_control t f) fun r _ => State.setFlags_reg8 t f r

@[simp] theorem State.setFlags_hl (s : State) (f : Flags) : (s.setFlags f).hl = s.hl := rfl

/-- Rule R32: SP is no half of another pair. -/
theorem State.reg16_setSp_of_ne (s : State) {p : Reg16} (h : p ≠ .sp) (v : Word) :
    (s.setSp v).reg16 p = s.reg16 p := by
  cases p with
  | sp => exact absurd rfl h
  | bc | de | hl => rfl

/-! ## A word stored (R291) -/

section
variable {s : State} {a v : Word}

/-- Rule R146: an unrefused write commutes with an instruction's start. -/
theorem writeByte_startInstr {x : Byte} (h : s.writeRefusal a x = none) (len cost : Nat) :
    writeByte a x (s.startInstr len cost) = .next ((s.storeByte a x).startInstr len cost) := by
  rw [← State.storeByte_startInstr]
  exact writeByte_of_none h

/-- Rules R11, R291: after an instruction's start an unrefused `Write16` leaves its two stores. -/
theorem storeWord_startInstr (hlo : s.writeRefusal a (loByte v) = none)
    (hhi : (s.storeByte a (loByte v)).writeRefusal (a + 1) (hiByte v) = none) (len cost : Nat) :
    storeWord a v (s.startInstr len cost) =
      .next (((s.storeByte a (loByte v)).storeByte (a + 1) (hiByte v)).startInstr len cost) :=
  chain_next.2 ⟨_, writeByte_startInstr hlo len cost, writeByte_startInstr hhi len cost⟩

/-- Rules R11, R515: `Write16` is refused at its first or at its second write. -/
theorem storeWord_startInstr_refused {q : Refusal} (h : s.writeRefusal a (loByte v) = some q ∨
      s.writeRefusal a (loByte v) = none ∧
        (s.storeByte a (loByte v)).writeRefusal (a + 1) (hiByte v) = some q) (len cost : Nat) :
    storeWord a v (s.startInstr len cost) = .refused q := by
  rcases h with hlo | ⟨hlo, hhi⟩
  · exact chain_refused.2 (.inl (writeByte_refused.2 hlo))
  · exact chain_refused.2 (.inr ⟨_, writeByte_startInstr hlo len cost, writeByte_refused.2 hhi⟩)

end

/-- Settles O20: the instruction is `Write16` after its start. -/
theorem storeStackPointer : Obligations.StoreStackPointer :=
  fun s nn => ⟨rfl,
    fun hlo hhi => ⟨_, storeWord_startInstr hlo hhi 3 20, by simp [SpKept], by simp [FlagsKept],
      leaves_startInstr (by simp) (by simp) 3 20 []⟩,
    fun _ hlo => storeWord_startInstr_refused (.inl hlo) 3 20,
    fun _ hlo hhi => storeWord_startInstr_refused (.inr ⟨hlo, hhi⟩) 3 20⟩

/-! ## SP plus a displacement (R293, R343) -/

/-- Rule R223: the byte of a displacement is the displacement modulo 256. -/
theorem byteOfDisp_eq_byte (e : Int) : byteOfDisp e = byte (e % 256).toNat := by
  apply BitVec.eq_of_toNat_eq
  simp only [byteOfDisp, byte, BitVec.toNat_ofInt, BitVec.toNat_ofNat]
  omega

/-- Rules R9, R223: a displacement added modulo 65536. -/
theorem toNat_add_dispWord (w : Word) (e : Int) :
    ((w + dispWord e).toNat : Int) = ((w.toNat : Int) + e) % 65536 := by
  simp only [dispWord, BitVec.toNat_add, BitVec.toNat_ofInt]
  omega

/-- Rule R343: H and C of the unsigned addition of SP's low byte and the raw byte of `e`. -/
theorem spDispFlags_eq (sp : Word) (e : Int) : spDispFlags sp e =
    ⟨false, false, decide (sp.toNat % 16 + (e % 16).toNat > 15),
      decide (sp.toNat % 256 + (e % 256).toNat > 255)⟩ := by
  have hbyte : (dispByte e).toNat = (e % 256).toNat := BitVec.toNat_ofInt e
  have hnibble : (e % 256).toNat % 16 = (e % 16).toNat := by omega
  rw [spDispFlags, lowNibble, hbyte, hnibble]

/-- Settles O21: both instructions put the sum and its flags into the register file after their start. -/
theorem stackOffset : Obligations.StackOffset := by
  intro s e _ _
  refine ⟨?_, ?_, ⟨_, exec_ldHlSpE s e, ?_, rfl, spDispFlags_eq s.cpu.sp e, ?_⟩,
    ⟨_, exec_addSpE s e, toNat_add_dispWord s.cpu.sp e, spDispFlags_eq s.cpu.sp e, ?_⟩⟩
  · rw [← byteOfDisp_eq_byte]; rfl
  · rw [← byteOfDisp_eq_byte]; rfl
  · rw [State.setFlags_hl, State.hl, State.reg16_setReg16_same]
    exact toNat_add_dispWord s.cpu.sp e
  · exact ((leaves_startInstr rfl rfl 2 12 _).setReg16 (List.Subset.refl _) _).setFlags _
  · exact ((leaves_startInstr rfl rfl 2 16 []).setSp _).setFlags _

/-! ## PUSH (R31, R294) -/

/-- Rule R31: F as a number: its flags in bits 7-4, its low nibble 0. -/
theorem Flags.toNat_toByte (f : Flags) : f.toByte.toNat =
    128 * f.z.toNat + 64 * f.n.toNat + 32 * f.h.toNat + 16 * f.c.toNat := by
  rcases f with ⟨_ | _, _ | _, _ | _, _ | _⟩ <;> rfl

theorem encode_pushPair (p : StackPair) : encode (.pushPair p) = [byte (0xC5 + 16 * p.code)] := by
  cases p <;> rfl

/-- Settles O22: PUSH is `push16` of the pair after the instruction's start. -/
theorem pushPair : Obligations.PushPair := by
  refine fun s p => ⟨encode_pushPair p, ?_, fun u hu => ?_,
    fun q hq => (exec_pushPair s p).trans (hq.pushStarted 1 16)⟩
  · rintro rfl
    have hlo : loByte (s.stackPair .af) = s.cpu.flags.toByte := loByte_wordOf s.cpu.a _
    exact ⟨hiByte_wordOf s.cpu.a _, hlo ▸ Flags.toNat_toByte s.cpu.flags⟩
  · exact ⟨_, (exec_pushPair s p).trans (hu.pushStarted 1 16), rfl, by simp [FlagsKept, hu.cpu],
      (leaves_startInstr hu.cpu hu.stepCost 1 16 []).setSp _⟩

/-! ## POP (R295, R296) -/

theorem encode_popPair (p : StackPair) : encode (.popPair p) = [byte (0xC1 + 16 * p.code)] := by
  cases p <;> rfl

/-- Rules R31, R296: the four flags are bits 7-4 of the popped low byte. -/
theorem Flags.ofByte_loByte (v : Word) :
    Flags.ofByte (loByte v) = ⟨v.getLsbD 7, v.getLsbD 6, v.getLsbD 5, v.getLsbD 4⟩ := by
  simp [Flags.ofByte, loByte]

/-- Rule R295: POP of a pair of 8-bit registers writes the pair and moves SP on. -/
theorem exec_popPair_reg16 {s u : State} {v : Word} (hread : ReadsWord s s.cpu.sp v u) {p : StackPair}
    {p' : Reg16} {dst : List Reg8} (hset : ∀ t : State, t.setStackPair p v = t.setReg16 p' v)
    (hsp : p' ≠ .sp) (hdst : Reg16.halves p' ⊆ dst) :
    ∃ t, exec (.popPair p) s = .next t ∧ t.reg16 p' = v ∧
      (∀ q, q ≠ p' → q ≠ .sp → t.reg16 q = s.reg16 q) ∧ t.cpu.sp = s.cpu.sp + 2 ∧
      FlagsKept s t ∧ Leaves 1 12 dst s u t := by
  have hrun : exec (.popPair p) s =
      .next (((u.startInstr 1 12).setSp (s.cpu.sp + 2)).setReg16 p' v) := by
    rw [exec_popPair, hread.popStarted, hset]
  refine ⟨_, hrun, State.reg16_setReg16_same _ p' v, fun q hq hqsp => ?_,
    Cpu.setReg16_sp_of_ne _ hsp v, by simp [FlagsKept, hread.cpu],
    ((leaves_startInstr hread.cpu hread.stepCost 1 12 dst).setSp _).setReg16 hdst v⟩
  rw [State.reg16_setReg16_ne _ hq, State.reg16_setSp_of_ne _ hqsp, State.startInstr_reg16,
    State.reg16, hread.cpu, State.reg16]

/-- Rule R296: POP AF writes A and every flag, and moves SP on. -/
theorem exec_popAf_af {s u : State} {v : Word} (hread : ReadsWord s s.cpu.sp v u) :
    ∃ t, exec .popAf s = .next t ∧ t.reg8 .a = hiByte v ∧
      t.cpu.flags = ⟨v.getLsbD 7, v.getLsbD 6, v.getLsbD 5, v.getLsbD 4⟩ ∧
      t.cpu.sp = s.cpu.sp + 2 ∧ Leaves 1 12 [.a] s u t := by
  have hrun : exec .popAf s = .next ((((u.startInstr 1 12).setSp (s.cpu.sp + 2)).setReg8 .a
      (hiByte v)).setFlags (Flags.ofByte (loByte v))) :=
    (exec_popPair s .af).trans (hread.popStarted 1 12 _)
  exact ⟨_, hrun, rfl, Flags.ofByte_loByte v, rfl,
    (((leaves_startInstr hread.cpu hread.stepCost 1 12 _).setSp _).setReg8
      (List.mem_singleton_self _) _).setFlags _⟩

/-- Settles O23: BC, DE and HL are pairs of 8-bit registers; AF is A and the flags. -/
theorem popPair : Obligations.PopPair := by
  refine fun s u v hread => ⟨encode_popPair, ?_, exec_popAf_af hread⟩
  rintro p p' (⟨rfl, rfl⟩ | ⟨rfl, rfl⟩ | ⟨rfl, rfl⟩) <;>
    exact exec_popPair_reg16 hread (fun _ => rfl) (by decide) (by decide)

end Sys2Proof.Machine

namespace Sys2Proof.Machine

/-! # 8-bit arithmetic and logic (42_alu8.md R310-R326) -/

/-! ## Frames of accumulator updates and of operand reads -/

section
variable {len cost : Nat} {dst : List Reg8} {s u t w : State} {src : Option Reg8} {v : Byte}

theorem Leaves.setAccumulator (h : Leaves len cost dst s u t) (ha : .a ∈ dst) (x : Flagged) :
    Leaves len cost dst s u (t.setAccumulator x) :=
  (h.setReg8 ha x.1).setFlags x.2

/-- Rules R310, R323, R324: a result put into A and F after an instruction's start moves no other
register and leaves the world outside the CPU as it is. -/
theorem setAccumulator_startInstr_leaves (hcpu : u.cpu = s.cpu) (hcost : u.stepCost = s.stepCost)
    (len cost : Nat) (x : Flagged) :
    SpKept s ((u.startInstr len cost).setAccumulator x) ∧
      Leaves len cost [.a] s u ((u.startInstr len cost).setAccumulator x) :=
  ⟨by simp [SpKept, State.setAccumulator, hcpu],
    (leaves_startInstr hcpu hcost len cost [.a]).setAccumulator (List.mem_singleton_self _) x⟩

/-- Rule R310: reading an operand leaves the CPU as it is. -/
theorem Operand.cpu (h : Operand s src v u) : u.cpu = s.cpu := by
  cases h with
  | reg r => rfl
  | mem v u hread => exact hread.cpu

/-- Rule R310: reading an operand leaves the cost to the instruction. -/
theorem Operand.stepCost (h : Operand s src v u) : u.stepCost = s.stepCost := by
  cases h with
  | reg r => rfl
  | mem v u hread => exact hread.stepCost

/-- Rule R310: an operand in no register is the byte at HL. -/
theorem Operand.readsAs (h : Operand s src v u) (hsrc : src = none) : ReadsAs s s.hl v u := by
  subst hsrc
  cases h with
  | mem v u hread => exact hread

/-- Rule R221: an instruction's start touches PC and the HALT bug alone in the CPU. -/
theorem State.startInstr_flags (s : State) (len cost : Nat) :
    (s.startInstr len cost).cpu.flags = s.cpu.flags := rfl

theorem State.hl_of_cpu (h : u.cpu = s.cpu) : u.hl = s.hl := by
  rw [State.hl, State.reg16, h]
  rfl

end

/-! ## The eight operations on A (R310-R318) -/

theorem encode_aluOn (o : AluOp) (src : Option Reg8) :
    encode (.aluOn o src) = [byte (0x80 + 8 * o.code + operandCode src)] := by
  cases src with
  | none => cases o <;> rfl
  | some r => cases o <;> cases r <;> rfl

theorem encode_aluImm (o : AluOp) (n : Byte) : encode (.aluImm o n) = [byte (0xC6 + 8 * o.code), n] := by
  cases o <;> rfl

/-- Rule R310: the register and `(HL)` forms are one operation on A and the operand that was read. -/
theorem exec_aluOn {s u : State} {src : Option Reg8} {v : Byte} (h : Operand s src v u) (o : AluOp) :
    exec (.aluOn o src) s = .next (aluWith o v (u.startInstr 1 (formCost 4 8 src))) := by
  cases h with
  | reg r => exact exec_aluReg s o r
  | mem v u hread => exact (exec_aluMem s o).trans (withRead_of_readsAs _ (hread.startInstr 1 8))

/-- Rule R310: what an operation computes on bytes is what it means; its operand forms add nothing. -/
theorem aluMeans_of_aluResult {o : AluOp} {result : Nat → Nat → Nat → Nat}
    {flags : Nat → Nat → Nat → Flags}
    (h : ∀ (a v : Byte) (f : Flags), (aluResult o a v f).1.toNat = result a.toNat v.toNat f.c.toNat ∧
      (aluResult o a v f).2 = flags a.toNat v.toNat f.c.toNat) : AluMeans o result flags := by
  refine ⟨fun s src v u hop => ⟨encode_aluOn o src, _, exec_aluOn hop o, ?_⟩,
    fun s n => ⟨encode_aluImm o n, _, exec_aluImm s o n, ?_⟩⟩
  · obtain ⟨hresult, hflags⟩ := h (s.reg8 .a) v s.cpu.flags
    rw [aluWith, State.startInstr_reg8, State.startInstr_flags, State.reg8_of_cpu hop.cpu, hop.cpu]
    exact ⟨hresult, hflags, setAccumulator_startInstr_leaves hop.cpu hop.stepCost 1 _ _⟩
  · obtain ⟨hresult, hflags⟩ := h (s.reg8 .a) n s.cpu.flags
    exact ⟨hresult, hflags, setAccumulator_startInstr_leaves rfl rfl 2 8 _⟩

/-- Rule R34: Z as a test of the result's number. -/
theorem beq_zero_eq_decide (r : Byte) : (r == 0) = decide (r.toNat = 0) := by
  rw [Bool.eq_iff_iff, beq_iff_eq, decide_eq_true_iff, ← BitVec.toNat_inj]
  rfl

theorem toNat_bitAt_zero (c : Bool) : (bitAt c 0).toNat = c.toNat := by cases c <;> rfl

theorem bitNat_eq_toNat (c : Bool) : bitNat c = c.toNat := by cases c <;> rfl

/-- Rule R312: an addition with a carry, on integers. -/
theorem addCarry_eq (a v : Byte) (c : Bool) :
    (addCarry a v c).1.toNat = (a.toNat + v.toNat + c.toNat) % 256 ∧
      (addCarry a v c).2 = ⟨decide ((a.toNat + v.toNat + c.toNat) % 256 = 0), false,
        decide (a.toNat % 16 + v.toNat % 16 + c.toNat > 15), decide (a.toNat + v.toNat + c.toNat > 255)⟩ := by
  have hsum : (a + v + bitAt c 0).toNat = (a.toNat + v.toNat + c.toNat) % 256 := by
    rw [BitVec.toNat_add, BitVec.toNat_add, toNat_bitAt_zero]
    omega
  refine ⟨hsum, ?_⟩
  rw [addCarry, beq_zero_eq_decide, hsum, bitNat_eq_toNat]
  rfl

/-- Rule R314: a subtraction with a borrow, on integers. -/
theorem subCarry_eq (a v : Byte) (c : Bool) :
    (subCarry a v c).1.toNat = (a.toNat + 512 - v.toNat - c.toNat) % 256 ∧
      (subCarry a v c).2 = ⟨decide ((a.toNat + 512 - v.toNat - c.toNat) % 256 = 0), true,
        decide (a.toNat % 16 < v.toNat % 16 + c.toNat), decide (a.toNat < v.toNat + c.toNat)⟩ := by
  have hdiff : (a - v - bitAt c 0).toNat = (a.toNat + 512 - v.toNat - c.toNat) % 256 := by
    have hc := c.toNat_le
    rw [BitVec.toNat_sub, BitVec.toNat_sub, toNat_bitAt_zero]
    omega
  refine ⟨hdiff, ?_⟩
  rw [subCarry, beq_zero_eq_decide, hdiff, bitNat_eq_toNat]
  rfl

/-- Rules R313, R318: without a borrow the difference is 0 exactly when the operands are equal. -/
theorem subCarry_false_eq (a v : Byte) :
    (subCarry a v false).1.toNat = (a.toNat + 256 - v.toNat) % 256 ∧
      (subCarry a v false).2 = ⟨decide (a.toNat = v.toNat), true,
        decide (a.toNat % 16 < v.toNat % 16), decide (a.toNat < v.toNat)⟩ := by
  obtain ⟨hresult, hflags⟩ := subCarry_eq a v false
  have ha := a.isLt
  have hv := v.isLt
  have hdiff : (a.toNat + 512 - v.toNat - 0) % 256 = (a.toNat + 256 - v.toNat) % 256 := by omega
  have hzero : (a.toNat + 256 - v.toNat) % 256 = 0 ↔ a.toNat = v.toNat := by omega
  rw [Bool.toNat_false, hdiff] at hresult hflags
  exact ⟨hresult, hflags.trans (by simp only [hzero, Nat.add_zero])⟩

/-- Rules R315-R317: Z of a bitwise result. -/
theorem logicResult_flags (r : Byte) (h : Bool) :
    (logicResult r h).2 = ⟨decide (r.toNat = 0), false, h, false⟩ := by
  rw [logicResult, beq_zero_eq_decide]

/-- Settles O24: every form is `aluWith` after its start, so each operation is its byte arithmetic. -/
theorem aluResultAndFlags : Obligations.AluResultAndFlags :=
  ⟨aluMeans_of_aluResult fun a v _ => addCarry_eq a v false,
    aluMeans_of_aluResult fun a v f => addCarry_eq a v f.c,
    aluMeans_of_aluResult fun a v _ => subCarry_false_eq a v,
    aluMeans_of_aluResult fun a v f => subCarry_eq a v f.c,
    aluMeans_of_aluResult fun a v _ => ⟨rfl, (subCarry_false_eq a v).2⟩,
    aluMeans_of_aluResult fun a v _ => ⟨BitVec.toNat_and a v, logicResult_flags (a &&& v) true⟩,
    aluMeans_of_aluResult fun a v _ => ⟨BitVec.toNat_xor a v, logicResult_flags (a ^^^ v) false⟩,
    aluMeans_of_aluResult fun a v _ => ⟨BitVec.toNat_or a v, logicResult_flags (a ||| v) false⟩⟩

/-! ## Operations on a register or the byte at HL that put their result back (R319-R322, R354) -/

section
variable {f : Byte → Flags → Flagged} {s u w : State} {v : Byte} (len cost : Nat)

/-- Rules R319, R321, R354: a register updated after an instruction's start. -/
theorem updateReg_startInstr_leaves (s : State) (r : Reg8) (f : Byte → Flags → Flagged) :
    (updateReg r f (s.startInstr len cost)).reg8 r = (f (s.reg8 r) s.cpu.flags).1 ∧
      (updateReg r f (s.startInstr len cost)).cpu.flags = (f (s.reg8 r) s.cpu.flags).2 ∧
      SpKept s (updateReg r f (s.startInstr len cost)) ∧
      Leaves len cost [r] s s (updateReg r f (s.startInstr len cost)) := by
  rw [updateReg, State.startInstr_reg8]
  exact ⟨(State.setFlags_reg8 _ _ r).trans (State.reg8_setReg8_same _ r _), rfl,
    Cpu.setReg8_sp _ r _,
    ((leaves_startInstr rfl rfl len cost [r]).setReg8 (List.mem_singleton_self r) _).setFlags _⟩

/-- Rules R320, R322, R354: after its start and its read, an update of the byte at HL is its write. -/
theorem updateAtHl_startInstr (hread : ReadsAs s s.hl v u) :
    updateAtHl f (s.startInstr len cost) =
      chain (writeByte s.hl (f v s.cpu.flags).1 (u.startInstr len cost)) fun t =>
        .next (t.setFlags (f v s.cpu.flags).2) := by
  rw [updateAtHl, State.startInstr_hl, withRead_of_readsAs _ (hread.startInstr len cost),
    State.startInstr_hl, State.startInstr_flags, State.hl_of_cpu hread.cpu, hread.cpu]

/-- Rules R320, R322, R354: the byte at HL read, updated and written back. -/
theorem updateAtHl_next (hread : ReadsAs s s.hl v u)
    (hnone : u.writeRefusal s.hl (f v s.cpu.flags).1 = none) :
    updateAtHl f (s.startInstr len cost) = .next
      (((u.storeByte s.hl (f v s.cpu.flags).1).startInstr len cost).setFlags (f v s.cpu.flags).2) := by
  rw [updateAtHl_startInstr len cost hread, writeByte_startInstr hnone, chain_of_next]

/-- Rules R320, R322, R515: a refused write-back refuses the update. -/
theorem updateAtHl_refused (hread : ReadsAs s s.hl v u) {q : Refusal}
    (hq : u.writeRefusal s.hl (f v s.cpu.flags).1 = some q) :
    updateAtHl f (s.startInstr len cost) = .refused q :=
  (updateAtHl_startInstr len cost hread).trans (chain_refused.2 (.inl (writeByte_refused.2 hq)))

end

/-- Rules R319-R322, R354: an instruction that updates its operand, a register or the byte at HL, puts
the result back where the operand came from. -/
theorem exec_updates {i : Option Reg8 → Instr} {f : Byte → Flags → Flagged} {len onReg onMem : Nat}
    (hreg : ∀ s r, exec (i (some r)) s = .next (updateReg r f (s.startInstr len onReg)))
    (hmem : ∀ s, exec (i none) s = updateAtHl f (s.startInstr len onMem))
    {s u w : State} {src : Option Reg8} {v : Byte} (hop : Operand s src v u)
    (hback : PutsBack s u src (f v s.cpu.flags).1 w) :
    ∃ t, exec (i src) s = .next t ∧ HoldsBack t src (f v s.cpu.flags).1 ∧
      t.cpu.flags = (f v s.cpu.flags).2 ∧ SpKept s t ∧
      Leaves len (formCost onReg onMem src) (putBackRegs src) s w t := by
  cases hop with
  | reg r =>
    obtain rfl : w = s := hback
    exact ⟨_, hreg w r, updateReg_startInstr_leaves len onReg w r f⟩
  | mem v u hread =>
    obtain ⟨hnone, rfl⟩ := hback
    have hcpu := (State.storeByte_cpu u s.hl (f v s.cpu.flags).1).trans hread.cpu
    have hcost := (State.storeByte_stepCost u s.hl (f v s.cpu.flags).1).trans hread.stepCost
    exact ⟨_, (hmem s).trans (updateAtHl_next len onMem hread hnone), trivial, rfl,
      by simp [SpKept, hread.cpu], (leaves_startInstr hcpu hcost len onMem []).setFlags _⟩

/-! ## INC and DEC of a byte (R319-R322) -/

theorem encode_incOn (src : Option Reg8) : encode (.incOn src) = [byte (0x04 + 8 * operandCode src)] := by
  cases src with
  | none => rfl
  | some r => cases r <;> rfl

theorem encode_decOn (src : Option Reg8) : encode (.decOn src) = [byte (0x05 + 8 * operandCode src)] := by
  cases src with
  | none => rfl
  | some r => cases r <;> rfl

/-- Rule R319: only 255 becomes 0. -/
theorem incResult_flags (v : Byte) (f : Flags) : (incResult v f).2 =
    ⟨decide (v.toNat = 255), false, decide (v.toNat % 16 = 15), f.c⟩ := by
  have hzero : (v + 1).toNat = 0 ↔ v.toNat = 255 := by bv_omega
  rw [incResult, beq_zero_eq_decide, decide_eq_decide.2 hzero]
  rfl

/-- Rule R321: only 1 becomes 0. -/
theorem decResult_flags (v : Byte) (f : Flags) : (decResult v f).2 =
    ⟨decide (v.toNat = 1), true, decide (v.toNat % 16 = 0), f.c⟩ := by
  have hzero : (v - 1).toNat = 0 ↔ v.toNat = 1 := by bv_omega
  rw [decResult, beq_zero_eq_decide, decide_eq_decide.2 hzero]
  rfl

/-- Settles O25: both instructions update their operand, with the flags of `incResult` and `decResult`. -/
theorem incDecByte : Obligations.IncDecByte := by
  refine fun s u src v hop => ⟨encode_incOn src, encode_decOn src, fun w hw => ?_, fun w hw => ?_,
    fun q hsrc hq => updateAtHl_refused (f := incResult) 1 12 (hop.readsAs hsrc) hq,
    fun q hsrc hq => updateAtHl_refused (f := decResult) 1 12 (hop.readsAs hsrc) hq⟩
  · exact incResult_flags v s.cpu.flags ▸
      exec_updates (i := .incOn) (f := incResult) exec_incReg exec_incMhl hop hw
  · exact decResult_flags v s.cpu.flags ▸
      exec_updates (i := .decOn) (f := decResult) exec_decReg exec_decMhl hop hw

/-! ## DAA, CPL, SCF, CCF (R323-R326) -/

/-- Rule R323: the byte DAA adjusts A by, as a number. -/
theorem toNat_daaAdjustment (high low : Bool) :
    ((if high then (0x60 : Byte) else 0) + (if low then 0x06 else 0)).toNat =
      (if high then 0x60 else 0) + (if low then 0x06 else 0) := by
  revert high low
  decide

/-- Rule R323: A moved by an adjustment, down after a subtraction and up otherwise. -/
theorem toNat_adjusted (n : Bool) (a d : Byte) : (if n then a - d else a + d).toNat =
    if n then (a.toNat + 256 - d.toNat) % 256 else (a.toNat + d.toNat) % 256 := by
  cases n with
  | false => exact BitVec.toNat_add a d
  | true =>
    have hd := d.isLt
    have hsub : (2 ^ 8 - d.toNat + a.toNat) % 2 ^ 8 = (a.toNat + 256 - d.toNat) % 256 := by omega
    exact (BitVec.toNat_sub a d).trans hsub

/-- Rule R323: DAA on integers. -/
theorem daaResult_eq (a : Byte) (f : Flags) :
    let d : Nat := (if daaHigh a f then 0x60 else 0) + (if daaLow a f then 0x06 else 0)
    let r := if f.n then (a.toNat + 256 - d) % 256 else (a.toNat + d) % 256
    (daaResult a f).1.toNat = r ∧ (daaResult a f).2 = ⟨decide (r = 0), f.n, false, daaHigh a f⟩ := by
  intro d r
  have hresult : (daaResult a f).1.toNat = r :=
    (toNat_adjusted f.n a _).trans (by rw [toNat_daaAdjustment])
  refine ⟨hresult, ?_⟩
  rw [← hresult, ← beq_zero_eq_decide]
  rfl

/-- Settles O26: each instruction puts its byte's result and flags into A and F after its start. -/
theorem accumulatorAdjust : Obligations.AccumulatorAdjust :=
  ⟨fun s => ⟨rfl, _, exec_daa s, daaResult_eq (s.reg8 .a) s.cpu.flags,
      setAccumulator_startInstr_leaves rfl rfl 1 4 _⟩,
    fun s => ⟨⟨rfl, _, exec_cpl s, BitVec.toNat_not, rfl, setAccumulator_startInstr_leaves rfl rfl 1 4 _⟩,
      ⟨rfl, _, exec_scf s, rfl, rfl, (leaves_startInstr rfl rfl 1 4 []).setFlags _⟩,
      ⟨rfl, _, exec_ccf s, rfl, rfl, (leaves_startInstr rfl rfl 1 4 []).setFlags _⟩⟩⟩

end Sys2Proof.Machine

namespace Sys2Proof.Machine

/-! # 16-bit arithmetic (43_alu16.md R340-R342) -/

theorem encode_addHlPair (p : Reg16) : encode (.addHlPair p) = [byte (0x09 + 16 * p.code)] := by
  cases p <;> rfl

theorem encode_incPair (p : Reg16) : encode (.incPair p) = [byte (0x03 + 16 * p.code)] := by
  cases p <;> rfl

theorem encode_decPair (p : Reg16) : encode (.decPair p) = [byte (0x0B + 16 * p.code)] := by
  cases p <;> rfl

/-- Rules R9, R342: one subtracted modulo 65536. -/
theorem toNat_word_sub_one (w : Word) : (w - 1).toNat = (w.toNat + 65535) % 65536 := by
  have hcomm : (65535 + w.toNat) % 65536 = (w.toNat + 65535) % 65536 := by rw [Nat.add_comm]
  exact (BitVec.toNat_sub w 1).trans hcomm

/-- Rules R225, R341, R342: a word put into a pair after an instruction's start: no flag and no other pair
changes. -/
theorem setReg16_startInstr_leaves (s : State) (len cost : Nat) (p : Reg16) (v : Word) :
    FlagsKept s ((s.startInstr len cost).setReg16 p v) ∧
      (∀ p', p' ≠ p → ((s.startInstr len cost).setReg16 p v).reg16 p' = s.reg16 p') ∧
      Leaves len cost [.b, .c, .d, .e, .h, .l] s s ((s.startInstr len cost).setReg16 p v) := by
  refine ⟨Cpu.setReg16_flags _ p v, fun p' hp' => ?_, ?_⟩
  · rw [State.reg16_setReg16_ne _ hp', State.startInstr_reg16]
  · have hhalves : Reg16.halves p ⊆ [.b, .c, .d, .e, .h, .l] := by cases p <;> decide
    exact (leaves_startInstr rfl rfl len cost _).setReg16 hhalves v

/-- Settles O27: each instruction writes one pair after its start; ADD HL,rr then sets the flags. -/
theorem wordArithmetic : Obligations.WordArithmetic := by
  refine fun s p => ⟨⟨encode_addHlPair p, _, exec_addHlPair s p, ?_, rfl, ?_, ?_⟩,
    ⟨encode_incPair p, _, exec_incPair s p, ?_, setReg16_startInstr_leaves s 1 8 p _⟩,
    ⟨encode_decPair p, _, exec_decPair s p, ?_, setReg16_startInstr_leaves s 1 8 p _⟩⟩
  · rw [State.setFlags_hl, State.hl, State.reg16_setReg16_same]
    exact BitVec.toNat_add s.hl (s.reg16 p)
  · exact Cpu.setReg16_sp_of_ne _ (by decide) _
  · exact ((leaves_startInstr rfl rfl 1 8 _).setReg16 (List.Subset.refl _) _).setFlags _
  · rw [State.reg16_setReg16_same]
    exact BitVec.toNat_add (s.reg16 p) 1
  · rw [State.reg16_setReg16_same]
    exact toNat_word_sub_one (s.reg16 p)

end Sys2Proof.Machine

namespace Sys2Proof.Machine

/-! # Rotates, shifts and bits (44_rotate_shift_bit.md R350-R365) -/

/-! ## Rotates and shifts on integers (R355-R362) -/

/-- Rule R9: bits put below a multiple of 2^k add to it. -/
theorem toNat_or_of_lt {x y : Byte} {k n : Nat} (hx : x.toNat = 2 ^ k * n) (hy : y.toNat < 2 ^ k) :
    (x ||| y).toNat = 2 ^ k * n + y.toNat := by
  rw [BitVec.toNat_or, hx, Nat.two_pow_add_eq_or_of_lt hy]

theorem toNat_bitAt_seven (c : Bool) : (bitAt c 7).toNat = 128 * c.toNat := by cases c <;> rfl

theorem toNat_shiftLeft_byte (o : Byte) (k : Nat) : (o <<< k).toNat = o.toNat * 2 ^ k % 256 := by
  rw [BitVec.toNat_shiftLeft, Nat.shiftLeft_eq]

theorem toNat_shiftRight_byte (o : Byte) (k : Nat) : (o >>> k).toNat = o.toNat / 2 ^ k := by
  rw [BitVec.toNat_ushiftRight, Nat.shiftRight_eq_div_pow]

/-- Rules R355, R357: a byte moved up with a bit put in at the bottom. -/
theorem toNat_shiftLeft_or_bit (o : Byte) (c : Bool) :
    (o <<< 1 ||| bitAt c 0).toNat = 2 * o.toNat % 256 + c.toNat := by
  have hup : (o <<< 1).toNat = 2 ^ 1 * (o.toNat % 128) := by
    rw [toNat_shiftLeft_byte]
    omega
  have hc : (bitAt c 0).toNat < 2 ^ 1 := by cases c <;> decide
  rw [toNat_or_of_lt hup hc, toNat_bitAt_zero]
  omega

/-- Rules R356, R358: a byte moved down with a bit put in at the top. -/
theorem toNat_shiftRight_or_bit (o : Byte) (c : Bool) :
    (o >>> 1 ||| bitAt c 7).toNat = o.toNat / 2 + 128 * c.toNat := by
  have ho := o.isLt
  have hdown : (o >>> 1).toNat = o.toNat / 2 := toNat_shiftRight_byte o 1
  have hlt : (o >>> 1).toNat < 2 ^ 7 := by omega
  rw [BitVec.or_comm, toNat_or_of_lt (toNat_bitAt_seven c) hlt, hdown]
  omega

/-- Rule R361: the nibbles exchanged. -/
theorem toNat_nibbles_exchanged (o : Byte) :
    (o <<< 4 ||| o >>> 4).toNat = 16 * (o.toNat % 16) + o.toNat / 16 := by
  have ho := o.isLt
  have hup : (o <<< 4).toNat = 2 ^ 4 * (o.toNat % 16) := by
    rw [toNat_shiftLeft_byte]
    omega
  have hdown : (o >>> 4).toNat = o.toNat / 16 := toNat_shiftRight_byte o 4
  have hlt : (o >>> 4).toNat < 2 ^ 4 := by omega
  rw [toNat_or_of_lt hup hlt, hdown]
  rfl

theorem toNat_getLsbD_seven (o : Byte) : (o.getLsbD 7).toNat = o.toNat / 128 := by
  have ho := o.isLt
  have hbit : (o.getLsbD 7).toNat = o.toNat / 128 % 2 := Nat.toNat_testBit o.toNat 7
  omega

theorem toNat_getLsbD_zero (o : Byte) : (o.getLsbD 0).toNat = o.toNat % 2 := by
  have hbit : (o.getLsbD 0).toNat = o.toNat / 1 % 2 := Nat.toNat_testBit o.toNat 0
  omega

/-- Rule R360: bit 7 of a byte, in its place. -/
theorem and_top_eq_bitAt (o : Byte) : o &&& 0x80 = bitAt (o.getLsbD 7) 7 :=
  BitVec.and_twoPow o 7

/-- Rules R355-R362: the value and the carry the model computes on bytes are the rules' on integers. -/
theorem shiftMeaning_eq (op : ShiftOp) (o : Byte) (c : Bool) :
    shiftMeaning op o.toNat c.toNat = ((shiftValue op o c).toNat, (shiftCarry op o).toNat) := by
  cases op <;> simp only [shiftMeaning, shiftValue, shiftCarry, and_top_eq_bitAt, toNat_shiftLeft_or_bit,
    toNat_shiftRight_or_bit, toNat_nibbles_exchanged, toNat_getLsbD_seven, toNat_getLsbD_zero,
    toNat_shiftLeft_byte, toNat_shiftRight_byte, Bool.toNat_false, pow_one, Nat.mul_comm 2]

/-- Rules R355-R362: the value of a rotate or shift is the rule's number. -/
theorem toNat_eq_shiftMeaning_iff {op : ShiftOp} {o res : Byte} {c : Bool} :
    res.toNat = (shiftMeaning op o.toNat c.toNat).1 ↔ res = shiftValue op o c := by
  rw [shiftMeaning_eq, BitVec.toNat_inj]

/-- Rules R355-R362: the carry of a rotate or shift is the rule's bit. -/
theorem decide_shiftMeaning_carry (op : ShiftOp) (o : Byte) (c : Bool) :
    decide ((shiftMeaning op o.toNat c.toNat).2 = 1) = shiftCarry op o := by
  simp only [shiftMeaning_eq, Bool.toNat_eq_one, Bool.decide_eq_true]

/-! ## RLCA, RRCA, RLA, RRA (R350-R353) -/

/-- Rules R350-R353: a rotate of A after an instruction's start. -/
theorem rotateA_startInstr_leaves (s : State) (op : ShiftOp) :
    let t := (s.startInstr 1 4).setAccumulator (rotateAResult op (s.reg8 .a) s.cpu.flags)
    (t.reg8 .a).toNat = (shiftMeaning op (s.reg8 .a).toNat s.cpu.flags.c.toNat).1 ∧
      t.cpu.flags = ⟨false, false, false,
        decide ((shiftMeaning op (s.reg8 .a).toNat s.cpu.flags.c.toNat).2 = 1)⟩ ∧
      SpKept s t ∧ Leaves 1 4 [.a] s s t := by
  refine ⟨toNat_eq_shiftMeaning_iff.2 rfl, ?_, setAccumulator_startInstr_leaves rfl rfl 1 4 _⟩
  rw [decide_shiftMeaning_carry]
  rfl

/-- Settles O28: the four instructions are one rotate of A after their start. -/
theorem rotateAccumulator : Obligations.RotateAccumulator := by
  rintro s i enc op (⟨rfl, rfl, rfl⟩ | ⟨rfl, rfl, rfl⟩ | ⟨rfl, rfl, rfl⟩ | ⟨rfl, rfl, rfl⟩)
  · exact ⟨rfl, _, exec_rlca s, rotateA_startInstr_leaves s .rlc⟩
  · exact ⟨rfl, _, exec_rrca s, rotateA_startInstr_leaves s .rrc⟩
  · exact ⟨rfl, _, exec_rla s, rotateA_startInstr_leaves s .rl⟩
  · exact ⟨rfl, _, exec_rra s, rotateA_startInstr_leaves s .rr⟩

/-! ## The CB rotates and shifts (R354-R362) -/

theorem encode_shiftOn (op : ShiftOp) (src : Option Reg8) :
    encode (.shiftOn op src) = [0xCB, byte (8 * op.code + operandCode src)] := by
  cases src with
  | none => cases op <;> rfl
  | some r => cases op <;> cases r <;> rfl

/-- Settles O29: each form updates its operand with the value and the flags of `shiftResult`, which are the
rule's on integers. -/
theorem rotateShift : Obligations.RotateShift := by
  refine fun s u op src o hop => ⟨encode_shiftOn op src, fun res w hres hw => ?_,
    ⟨_, toNat_eq_shiftMeaning_iff.2 rfl⟩, fun res q hres hsrc hq => ?_⟩
  · obtain rfl := toNat_eq_shiftMeaning_iff.1 hres
    rw [decide_shiftMeaning_carry, ← beq_eq_decide]
    exact exec_updates (i := .shiftOn op) (f := shiftResult op) (fun s r => exec_shiftReg s op r)
      (fun s => exec_shiftMem s op) hop hw
  · obtain rfl := toNat_eq_shiftMeaning_iff.1 hres
    exact (exec_shiftMem s op).trans
      (updateAtHl_refused (f := shiftResult op) 2 16 (hop.readsAs hsrc) hq)

/-! ## BIT (R363) -/

theorem encode_bitOn (b : Field3) (src : Option Reg8) :
    encode (.bitOn b src) = [0xCB, byte (0x40 + 8 * b.val + operandCode src)] := by
  cases src with
  | none => cases b <;> rfl
  | some r => cases b <;> cases r <;> rfl

/-- Rules R354, R363: the register and `(HL)` forms of BIT are one test of the operand that was read. -/
theorem exec_bitOn {s u : State} {src : Option Reg8} {o : Byte} (h : Operand s src o u) (b : Field3) :
    exec (.bitOn b src) s =
      .next ((u.startInstr 2 (formCost 8 12 src)).setFlags (bitFlags b o s.cpu.flags)) := by
  cases h with
  | reg r => exact exec_bitReg s b r
  | mem v u hread =>
    rw [← hread.cpu]
    exact (exec_bitMem s b).trans (withRead_of_readsAs _ (hread.startInstr 2 12))

/-- Rule R363: Z is the complement of the tested bit. -/
theorem bitFlags_eq (b : Field3) (o : Byte) (f : Flags) :
    bitFlags b o f = ⟨decide (o.toNat / 2 ^ b.val % 2 = 0), false, true, f.c⟩ := by
  rw [bitFlags, getLsbD_num, ← decide_not, decide_eq_decide.2 Nat.mod_two_ne_one]

/-! ## RES and SET (R364, R365) -/

theorem encode_resOn (b : Field3) (src : Option Reg8) :
    encode (.resOn b src) = [0xCB, byte (0x80 + 8 * b.val + operandCode src)] := by
  cases src with
  | none => cases b <;> rfl
  | some r => cases b <;> cases r <;> rfl

theorem encode_setOn (b : Field3) (src : Option Reg8) :
    encode (.setOn b src) = [0xCB, byte (0xC0 + 8 * b.val + operandCode src)] := by
  cases src with
  | none => cases b <;> rfl
  | some r => cases b <;> cases r <;> rfl

/-- Rule R9: the byte `1 << n` has bit `n` alone. -/
theorem getLsbD_ofNat_two_pow {n k : Nat} (hk : k < 8) :
    (BitVec.ofNat 8 (2 ^ n)).getLsbD k = decide (k = n) := by
  rw [BitVec.getLsbD_ofNat, Nat.testBit_two_pow, decide_eq_true hk, Bool.true_and,
    decide_eq_decide.2 eq_comm]

/-- Rule R364: RES clears the one bit. -/
theorem getLsbD_resValue (b : Field3) (o : Byte) {k : Nat} (hk : k < 8) :
    (resValue b o).getLsbD k = (o.getLsbD k && decide (k ≠ b.val)) := by
  rw [resValue, BitVec.getLsbD_and, BitVec.getLsbD_not, getLsbD_ofNat_two_pow hk, decide_eq_true hk,
    Bool.true_and, decide_not]

/-- Rule R365: SET sets the one bit. -/
theorem getLsbD_setValue (b : Field3) (o : Byte) {k : Nat} (hk : k < 8) :
    (setValue b o).getLsbD k = (o.getLsbD k || decide (k = b.val)) := by
  rw [setValue, BitVec.getLsbD_or, getLsbD_ofNat_two_pow hk]

section
variable {i : Option Reg8 → Instr} {f : Byte → Byte} {s u w : State} {v : Byte} {src : Option Reg8}
  {len onReg onMem : Nat}

/-- Rules R364, R365: after its start and its read, a change of the byte at HL is its write. -/
theorem modifyAtHl_startInstr (hread : ReadsAs s s.hl v u) (len cost : Nat) :
    modifyAtHl f (s.startInstr len cost) = writeByte s.hl (f v) (u.startInstr len cost) := by
  rw [modifyAtHl, State.startInstr_hl, withRead_of_readsAs _ (hread.startInstr len cost),
    State.startInstr_hl, State.hl_of_cpu hread.cpu]

/-- Rules R364, R365, R515: a refused write-back refuses the change. -/
theorem modifyAtHl_refused (hread : ReadsAs s s.hl v u) {q : Refusal}
    (hq : u.writeRefusal s.hl (f v) = some q) (len cost : Nat) :
    modifyAtHl f (s.startInstr len cost) = .refused q :=
  (modifyAtHl_startInstr hread len cost).trans (writeByte_refused.2 hq)

/-- Rules R354, R364, R365: an instruction that changes its operand, a register or the byte at HL, puts it
back where it came from and writes no flag. -/
theorem exec_modifies
    (hreg : ∀ s r, exec (i (some r)) s = .next ((s.startInstr len onReg).setReg8 r (f (s.reg8 r))))
    (hmem : ∀ s, exec (i none) s = modifyAtHl f (s.startInstr len onMem))
    (hop : Operand s src v u) (hback : PutsBack s u src (f v) w) :
    ∃ t, exec (i src) s = .next t ∧ HoldsBack t src (f v) ∧ SpKept s t ∧ FlagsKept s t ∧
      Leaves len (formCost onReg onMem src) (putBackRegs src) s w t := by
  cases hop with
  | reg r =>
    obtain rfl : w = s := hback
    exact ⟨_, hreg w r, setReg8_startInstr_leaves w len onReg r _⟩
  | mem v u hread =>
    obtain ⟨hnone, rfl⟩ := hback
    have hcpu := (State.storeByte_cpu u s.hl (f v)).trans hread.cpu
    have hcost := (State.storeByte_stepCost u s.hl (f v)).trans hread.stepCost
    have hrun := (modifyAtHl_startInstr hread len onMem).trans (writeByte_startInstr hnone len onMem)
    exact ⟨_, (hmem s).trans hrun, trivial, by simp [SpKept, hread.cpu], by simp [FlagsKept, hread.cpu],
      leaves_startInstr hcpu hcost len onMem []⟩

end

/-- Settles O30: BIT sets the flags from the operand it read; RES and SET change their operand. -/
theorem bitOperations : Obligations.BitOperations :=
  ⟨fun s u b src o hop => ⟨encode_bitOn b src, _, exec_bitOn hop b, bitFlags_eq b o s.cpu.flags,
      by simp [SpKept, hop.cpu], (leaves_startInstr hop.cpu hop.stepCost 2 _ []).setFlags _⟩,
    fun s u b src o hop => ⟨encode_resOn b src, encode_setOn b src, resValue b o, setValue b o,
      fun _ hk => getLsbD_resValue b o hk, fun _ hk => getLsbD_setValue b o hk,
      fun _ hw => exec_modifies (fun s r => exec_resReg s b r) (fun s => exec_resMem s b) hop hw,
      fun _ hw => exec_modifies (fun s r => exec_setReg s b r) (fun s => exec_setMem s b) hop hw,
      fun _ hsrc hq => (exec_resMem s b).trans (modifyAtHl_refused (hop.readsAs hsrc) hq 2 16),
      fun _ hsrc hq => (exec_setMem s b).trans (modifyAtHl_refused (hop.readsAs hsrc) hq 2 16)⟩⟩

end Sys2Proof.Machine

namespace Sys2Proof.Machine

/-! # Control transfer (45_control.md R380-R395) -/

/-! ## The frame of a jump (the word `JumpsTo` of Safety.lean) -/

section
variable {len cost : Nat} {s u t : State}

theorem Leaves.controlKept {dst : List Reg8} (h : Leaves len cost dst s u t) : ControlKept s t := by
  obtain ⟨-, -, -, hcontrol, -⟩ := h
  exact hcontrol

/-- An instruction that wrote no register, once its register file gets a new PC and, it may be, new IME:
it jumps. -/
theorem Leaves.jumpsTo (h : Leaves len cost [] s u t) {c : Cpu} (hbug : c.haltBug = t.cpu.haltBug)
    (hregs : ∀ r, c.reg8 r = t.reg8 r) (hflags : c.flags = s.cpu.flags) :
    JumpsTo c.pc cost s u (t.withCpu c) := by
  obtain ⟨-, ⟨hcost, hused⟩, hkept, -, hout, hread⟩ := h
  refine ⟨rfl, ⟨hcost, hbug.trans hused⟩, fun r hr => (hregs r).trans (hkept r hr), hflags, ?_, hread⟩
  rw [hout]
  rfl

/-- Rule R380: PC set at the end of an instruction that wrote no register and no flag. -/
theorem Leaves.setPc (h : Leaves len cost [] s u t) (hflags : FlagsKept s t) (pc : Word) :
    ControlKept s (t.setPc pc) ∧ JumpsTo pc cost s u (t.setPc pc) :=
  ⟨h.controlKept, h.jumpsTo (c := { t.cpu with pc := pc }) rfl (State.setPc_reg8 t pc) hflags⟩

/-- Rules R380-R384: what a taken jump keeps. -/
theorem setPc_startInstr_jumps (s : State) (len cost : Nat) (pc : Word) :
    SpKept s ((s.startInstr len cost).setPc pc) ∧ ControlKept s ((s.startInstr len cost).setPc pc) ∧
      JumpsTo pc cost s s ((s.startInstr len cost).setPc pc) :=
  ⟨rfl, (leaves_startInstr rfl rfl len cost []).setPc rfl pc⟩

/-- Rules R381, R384, R386, R388: an untaken transfer is its start alone. -/
theorem startInstr_untaken (s : State) (len cost : Nat) :
    SpKept s (s.startInstr len cost) ∧ FlagsKept s (s.startInstr len cost) ∧
      Leaves len cost [] s s (s.startInstr len cost) :=
  ⟨rfl, rfl, leaves_startInstr rfl rfl len cost []⟩

/-- Rules R11, R32: an instruction's start and SP moved write no register and no flag, on any state that
has the CPU and the cost the instruction began with. -/
theorem setSp_startInstr_leaves (hcpu : u.cpu = s.cpu) (hcost : u.stepCost = s.stepCost) (len cost : Nat)
    (sp : Word) : FlagsKept s ((u.startInstr len cost).setSp sp) ∧
      Leaves len cost [] s u ((u.startInstr len cost).setSp sp) :=
  ⟨by simp [FlagsKept, hcpu], (leaves_startInstr hcpu hcost len cost []).setSp sp⟩

/-- Rules R33, R402: the address of the next instruction. -/
theorem wordAdd_fetchAdvance (pc : Word) (bug : Bool) (len : Nat) : wordAdd pc (fetchAdvance bug len) =
    pc + if bug then BitVec.ofNat 16 (len - 1) else BitVec.ofNat 16 len := by
  cases bug <;> rfl

end

/-! ## JP and JR (R380-R384) -/

theorem encode_jpCond (cc : Cond) (nn : Word) :
    encode (.jpCond cc nn) = [byte (0xC2 + 8 * cc.code), loByte nn, hiByte nn] := by
  cases cc <;> rfl

theorem encode_jrE (e : Int) : encode (.jrE e) = [0x18, byte (e % 256).toNat] := by
  rw [← byteOfDisp_eq_byte]; rfl

theorem encode_jrCond (cc : Cond) (e : Int) :
    encode (.jrCond cc e) = [byte (0x20 + 8 * cc.code), byte (e % 256).toNat] := by
  rw [← byteOfDisp_eq_byte]; cases cc <;> rfl

/-- Rule R383: JR goes to the next instruction's address plus `e`, modulo 65536. -/
theorem toNat_pc_jumpBy_startInstr (s : State) (e : Int) (cost : Nat) :
    (((s.startInstr 2 cost).jumpBy e).cpu.pc.toNat : Int) =
      (s.cpu.pc.toNat + (if s.cpu.haltBug then 1 else 2) + e) % 65536 := by
  rw [State.jumpBy_cpu, toNat_add_dispWord, State.startInstr_cpu, wordAdd_fetchAdvance]
  cases s.cpu.haltBug <;> simp

/-- Settles O31: a taken form sets PC after the instruction's start; an untaken one is the start alone. -/
theorem jumps : Obligations.Jumps := by
  refine ⟨fun f => ⟨rfl, rfl, rfl, rfl⟩, fun s nn e cc =>
    ⟨⟨rfl, _, exec_jpNn s nn, setPc_startInstr_jumps s 3 16 nn⟩,
      ⟨rfl, _, exec_jpHl s, setPc_startInstr_jumps s 1 4 s.hl⟩,
      ⟨encode_jpCond cc nn, ?_⟩, ⟨encode_jrE e, _, exec_jrE s e, ?_⟩, ⟨encode_jrCond cc e, ?_⟩⟩⟩
  · rw [exec_jpCond]
    split
    · exact ⟨_, rfl, setPc_startInstr_jumps s 3 16 nn⟩
    · obtain ⟨hsp, hflags, hleaves⟩ := startInstr_untaken s 3 12
      exact ⟨_, rfl, hsp, hleaves.controlKept, hflags, hleaves⟩
  · obtain ⟨hsp, hcontrol, hjumps⟩ := setPc_startInstr_jumps s 2 12 _
    exact ⟨hsp, hcontrol, hjumps, toNat_pc_jumpBy_startInstr s e 12⟩
  · rw [exec_jrCond]
    split
    · obtain ⟨hsp, hcontrol, hjumps⟩ := setPc_startInstr_jumps s 2 12 _
      exact ⟨_, rfl, hsp, hcontrol, hjumps, toNat_pc_jumpBy_startInstr s e 12⟩
    · obtain ⟨hsp, hflags, hleaves⟩ := startInstr_untaken s 2 8
      exact ⟨_, rfl, hsp, hleaves.controlKept, hflags, hleaves⟩

/-! ## CALL and RST (R385, R386, R395) -/

theorem encode_callCond (cc : Cond) (nn : Word) :
    encode (.callCond cc nn) = [byte (0xC4 + 8 * cc.code), loByte nn, hiByte nn] := by
  cases cc <;> rfl

theorem encode_rstVec (y : Field3) : encode (.rstVec y) = [byte (0xC7 + 8 * y.val)] := by
  cases y <;> rfl

/-- Rules R385, R395: an unrefused call pushes the address of the next instruction and goes to its
target. -/
theorem Pushes.callStarted {s u : State} {len : Nat} (h : Pushes s (s.cpu.pc +
      if s.cpu.haltBug then BitVec.ofNat 16 (len - 1) else BitVec.ofNat 16 len) u)
    (cost : Nat) (target : Word) : ∃ t, callTo target (s.startInstr len cost) = .next t ∧
      t.cpu.sp = s.cpu.sp - 2 ∧ ControlKept s t ∧ JumpsTo target cost s u t := by
  obtain ⟨hflags, hframe⟩ := setSp_startInstr_leaves h.cpu h.stepCost len cost (s.cpu.sp - 2)
  rw [← wordAdd_fetchAdvance] at h
  exact ⟨_, chain_next.2 ⟨_, h.pushStarted len cost, rfl⟩, rfl, hframe.setPc hflags target⟩

/-- Rules R385, R395, R515: a refused push refuses the call. -/
theorem PushRefused.callStarted {s : State} {len : Nat} {q : Refusal} (h : PushRefused s (s.cpu.pc +
      if s.cpu.haltBug then BitVec.ofNat 16 (len - 1) else BitVec.ofNat 16 len) q)
    (cost : Nat) (target : Word) : callTo target (s.startInstr len cost) = .refused q := by
  rw [← wordAdd_fetchAdvance] at h
  exact chain_refused.2 (.inl (h.pushStarted len cost))

/-- Settles O32: a taken form is `callTo` after the instruction's start, of 3 bytes for CALL and 1 for
RST. -/
theorem calls : Obligations.Calls := by
  intro s nn cc y
  refine ⟨rfl, encode_callCond cc nn, encode_rstVec y, fun u hu => ⟨?_, fun hcc => ?_⟩, fun hcc => ?_,
    fun u hu => ?_, fun q hq => ⟨?_, fun hcc => ?_⟩, fun q hq => ?_⟩
  · exact hu.callStarted (len := 3) 24 nn
  · rw [exec_callCond, if_pos hcc]
    exact hu.callStarted (len := 3) 24 nn
  · rw [exec_callCond, hcc]
    exact ⟨_, rfl, startInstr_untaken s 3 12⟩
  · rw [exec_rstVec]
    exact hu.callStarted (len := 1) 16 _
  · exact hq.callStarted (len := 3) 24 nn
  · rw [exec_callCond, if_pos hcc]
    exact hq.callStarted (len := 3) 24 nn
  · rw [exec_rstVec]
    exact hq.callStarted (len := 1) 16 _

/-! ## RET and RETI (R387, R388, R394) -/

theorem encode_retCond (cc : Cond) : encode (.retCond cc) = [byte (0xC0 + 8 * cc.code)] := by
  cases cc <;> rfl

section
variable {s u : State} {v : Word}

/-- Rule R387: a return whose reads are not refused goes to the word it popped. -/
theorem ReadsWord.returnStarted (h : ReadsWord s s.cpu.sp v u) (len cost : Nat) :
    ∃ t, returnTo (s.startInstr len cost) = .next t ∧ t.cpu.sp = s.cpu.sp + 2 ∧ ControlKept s t ∧
      JumpsTo v cost s u t :=
  have ⟨hflags, hframe⟩ := setSp_startInstr_leaves h.cpu h.stepCost len cost (s.cpu.sp + 2)
  ⟨_, h.popStarted len cost _, rfl, hframe.setPc hflags v⟩

/-- Rule R394: RETI is a return that sets IME and leaves the EI delay. -/
theorem ReadsWord.returnFromInterruptStarted (h : ReadsWord s s.cpu.sp v u) (len cost : Nat) :
    ∃ t, returnFromInterrupt (s.startInstr len cost) = .next t ∧ t.cpu.sp = s.cpu.sp + 2 ∧
      t.cpu.ime = true ∧ t.cpu.imeDelay = s.cpu.imeDelay ∧ t.cpu.halted = s.cpu.halted ∧
      t.cpu.stopped = s.cpu.stopped ∧ JumpsTo v cost s u t := by
  obtain ⟨hflags, hframe⟩ := setSp_startInstr_leaves h.cpu h.stepCost len cost (s.cpu.sp + 2)
  obtain ⟨-, hdelay, hhalted, hstopped⟩ := hframe.controlKept
  exact ⟨_, h.popStarted len cost _, rfl, rfl, hdelay, hhalted, hstopped,
    hframe.jumpsTo rfl (State.setPc_reg8 _ v) hflags⟩

end

/-- Settles O33: a taken form is a pop into PC after the instruction's start. -/
theorem returns : Obligations.Returns := by
  refine fun s cc => ⟨rfl, encode_retCond cc, rfl, fun v u hread =>
    ⟨hread.returnStarted 1 16, fun hcc => ?_, hread.returnFromInterruptStarted 1 16⟩, fun hcc => ?_⟩
  · rw [exec_retCond, if_pos hcc]
    exact hread.returnStarted 1 20
  · rw [exec_retCond, hcc]
    exact ⟨_, rfl, startInstr_untaken s 1 8⟩

end Sys2Proof.Machine

namespace Sys2Proof.Machine

/-! # The system instructions and the steps they lead to (46_system.md R400-R407) -/

/-! ## Illegal bytes (30_encoding.md R232, 46_system.md R407) -/

theorem encode_illegal (o : IllegalOp) : encode (.illegal o) = [o.code] := by cases o <;> rfl

theorem wellFormed_illegal (o : IllegalOp) : (Instr.illegal o).wellFormed = true := by cases o <;> rfl

/-- Rule R232: the eleven bytes are the codes of the eleven illegal constructors. -/
theorem mem_illegal_bytes_iff (op : Byte) :
    op ∈ ([0xD3, 0xDB, 0xDD, 0xE3, 0xE4, 0xEB, 0xEC, 0xED, 0xF4, 0xFC, 0xFD] : List Byte) ↔
      ∃ o : IllegalOp, o.code = op := by
  constructor
  · intro h
    simp only [List.mem_cons, List.not_mem_nil, or_false] at h
    rcases h with rfl | rfl | rfl | rfl | rfl | rfl | rfl | rfl | rfl | rfl | rfl
    exacts [⟨.d3, rfl⟩, ⟨.db, rfl⟩, ⟨.dd, rfl⟩, ⟨.e3, rfl⟩, ⟨.e4, rfl⟩, ⟨.eb, rfl⟩, ⟨.ec, rfl⟩,
      ⟨.ed, rfl⟩, ⟨.f4, rfl⟩, ⟨.fc, rfl⟩, ⟨.fd, rfl⟩]
  · rintro ⟨o, rfl⟩
    cases o <;> decide

/-- Rule R232: an illegal constructor is decoded from its own byte alone. -/
theorem decode_illegal_iff (op : Byte) (o : IllegalOp) :
    decode [op] = .ok (.illegal o, []) ↔ o.code = op := by
  constructor
  · intro h
    obtain ⟨hbytes, -⟩ := encodeOfDecode _ _ _ h
    rw [encode_illegal] at hbytes
    exact (List.singleton_inj.1 hbytes).symm
  · rintro rfl
    rw [← encode_illegal]
    simpa using decodeOfEncode _ [] (wellFormed_illegal o)

/-- Rules R221, R232: the one byte of an illegal constructor, read at PC. -/
theorem ReadsAs.fetchedIllegal {s u : State} {o : IllegalOp} (h : ReadsAs s s.cpu.pc o.code u) :
    FetchedFrom 0 s (encode (.illegal o)) u := by
  rw [encode_illegal]
  refine fetchedFrom_cons.2 ⟨u, ?_, rfl⟩
  rwa [s.operandAddr_zero]

/-- Rule R407: an illegal byte fetched at PC is a fault at PC. -/
theorem runInstr_illegal {s u : State} {o : IllegalOp} (h : FetchedFrom 0 s (encode (.illegal o)) u)
    (hpc : u.cpu.pc = s.cpu.pc) : runInstr s = .fault (.invalidOpcode o.code s.cpu.pc) := by
  rw [runInstr_of_fetched (wellFormed_illegal o) h, exec_illegal, hpc]
  rfl

/-! ## A step that wakes the CPU (60_exceptions.md R429) -/

theorem ReadsAs.wake {s u : State} {a : Word} {v : Byte} (h : ReadsAs s a v u) :
    ReadsAs s.wake a v u.wake := by
  rcases h with ⟨hread, rfl⟩ | ⟨hread, hv, rfl⟩
  · exact .inl ⟨hread, rfl⟩
  · exact .inr ⟨hread, hv, rfl⟩

/-- Rule R429: the bytes fetched do not depend on the CPU having been halted. -/
theorem FetchedFrom.wake {k : Nat} {s u : State} {bs : List Byte} (h : FetchedFrom k s bs u) :
    FetchedFrom k s.wake bs u.wake := by
  induction bs generalizing k s with
  | nil => exact congrArg State.wake h
  | cons b bs ih =>
    obtain ⟨m, hread, hrest⟩ := h
    exact ⟨m.wake, hread.wake, ih hrest⟩

/-- Rules R429, R690: with an interrupt pending and IME clear, the CPU phase of a halted CPU is a wake-up
and one instruction. -/
theorem cpuPhase_woken {s : State} (hstopped : s.cpu.stopped = false) (hhalted : s.cpu.halted = true)
    (hpending : s.ints.pending ≠ 0) (hime : s.cpu.ime = false) :
    cpuPhase s = runInstr s.beginStep.wake := by
  have hidles : s.beginStep.idles = false := by
    simp only [State.idles, State.beginStep, hstopped, beq_false_of_ne hpending,
      Bool.and_false, Bool.or_false]
  have hasleep : s.beginStep.cpu.halted = true := hhalted
  have hdue : s.beginStep.wake.dispatches = false := State.dispatches_eq_false (.inl hime)
  simp [cpuPhase, runAwake, hidles, hasleep, hdue]

/-- Settles O8: the decoder reads the eleven codes back; fetched at PC, awake or on waking, each ends the
CPU phase with its fault. -/
theorem illegalOpcodeFaults : Obligations.IllegalOpcodeFaults := by
  refine ⟨fun op => ?_, fun o s => ⟨encode_illegal o, exec_illegal s o⟩,
    fun s u o hfault hstopped hruns hread => ?_⟩
  · simp only [mem_illegal_bytes_iff, decode_illegal_iff]
  · have hfetched := hread.fetchedIllegal.beginStep
    have hpc : u.cpu.pc = s.cpu.pc := congrArg Cpu.pc hread.cpu
    have hcpu : cpuPhase s = .fault (.invalidOpcode o.code s.cpu.pc) := by
      cases hhalted : s.cpu.halted with
      | false =>
        have hdue : s.cpu.ime = false ∨ s.ints.pending = 0 := by simpa [hhalted] using hruns
        rw [cpuPhase_awake hstopped hhalted (State.dispatches_eq_false hdue)]
        exact runInstr_illegal hfetched hpc
      | true =>
        obtain ⟨hpending, hime⟩ : s.ints.pending ≠ 0 ∧ s.cpu.ime = false := by
          simpa [hhalted] using hruns
        rw [cpuPhase_woken hstopped hhalted hpending hime]
        exact runInstr_illegal hfetched.wake hpc
    have hstep : step s = .fault (.invalidOpcode o.code s.cpu.pc) :=
      (step_of_no_fault hfault).trans (chain_fault.2 (.inl hcpu))
    exact ⟨hstep, by rw [clock, hstep]⟩

/-! ## Idle steps (46_system.md R403, 66_orchestrator.md R690) -/

theorem cpuPhase_idle {s : State} (h : s.idles = true) : cpuPhase s = .next (s.beginStep.addCost 4) :=
  if_pos h

/-- Rules R403, R690: an idle step is its device phase of 4 master cycles and its end phase. -/
theorem step_idle {s : State} (hfault : s.fault = none) (h : s.idles = true) :
    step s = .next (endPhase s.cpu.stopped (devicePhase s.cpu.stopped 4 (s.beginStep.addCost 4))) := by
  rw [step_of_no_fault hfault, cpuPhase_idle h]
  rfl

/-- Rules R403, R690: the device phase of a stopped step moves the cycle counter and the cartridge clock. -/
theorem devicePhase_frozen (n : Nat) (s : State) : devicePhase true n s =
    { s with cycles := s.cycles + n, cart := (devicePhase true n s).cart } := by
  induction n generalizing s with
  | zero => rfl
  | succ n ih =>
    rw [devicePhase, ih]
    have hcycles : s.cycles + 1 + n = s.cycles + (n + 1) := by omega
    simp [State.masterCycle, State.rtcPhase, State.countCycle, hcycles]

/-- Rules R403, R501: the end of a stopped step leaves STOP when an input line reads 0. -/
theorem endPhase_frozen_cpu (s : State) : (endPhase true s).cpu =
    { s.cpu with stopped := s.cpu.stopped && s.joypad.lines s.cycles == 0xF } := by
  have hlines : s.sampleJoypad.joypad.wakes s.sampleJoypad.cycles = (s.joypad.lines s.cycles != 0xF) := rfl
  rw [endPhase, State.leaveStop, hlines, bne]
  cases s.joypad.lines s.cycles == 0xF with
  | false => rw [Bool.and_false]; rfl
  | true => rw [Bool.and_true]; rfl

/-- Settles O6: a woken step is the instruction fetched after the wake-up; the other two are idle, with
the devices running or frozen. -/
theorem haltedAndStoppedSteps : Obligations.HaltedAndStoppedSteps := by
  refine ⟨fun s u i hwf hfault hstopped hhalted hpending hime hfetched t ht => ?_,
    fun s hfault hstopped hhalted hpending => ?_, fun s hfault hstopped => ?_⟩
  · have ht : exec i u.beginStep.wake = .next t := ht
    rw [step_of_no_fault hfault, cpuPhase_woken hstopped hhalted hpending hime,
      runInstr_of_fetched hwf hfetched.beginStep.wake, ht, chain_of_next, chain_of_next,
      promote_stepCost, hstopped]
    rfl
  · have hidles : s.idles = true := by simp [State.idles, hhalted, hpending]
    have hticked := devicePhase_fields false 4 (s.beginStep.addCost 4)
    refine ⟨_, step_idle hfault hidles, ?_⟩
    rw [hstopped]
    exact ⟨hticked.cpu, hticked.stepCost, hticked.cycles⟩
  · have hidles : s.idles = true := by simp [State.idles, hstopped]
    refine ⟨_, step_idle hfault hidles, ?_⟩
    rw [hstopped, devicePhase_frozen]
    obtain ⟨-, hcycles, hcost, hmem, htimer, hserial, hdma, hppu, hapu, -⟩ := endPhase_fields true
      { s.beginStep.addCost 4 with
        cycles := s.cycles + 4
        cart := (devicePhase true 4 (s.beginStep.addCost 4)).cart }
    refine ⟨hcost, hcycles, (endPhase_frozen_cpu _).trans ?_, htimer, hdma, hserial, hapu, hppu, hmem⟩
    simp [State.beginStep, State.addCost, hstopped]

/-! ## The CPU's control state (46_system.md R400-R405) -/

/-- Rules R35-R39: an instruction that wrote no register, once its register file gets new control state:
the rest of its frame is kept. -/
theorem Leaves.setControl {len cost : Nat} {s u t : State} (h : Leaves len cost [] s u t) {c : Cpu}
    (hpc : c.pc = t.cpu.pc) (hregs : ∀ r, c.reg8 r = t.reg8 r) (hsp : c.sp = s.cpu.sp)
    (hflags : c.flags = s.cpu.flags) :
    Passes len s (t.withCpu c) ∧ (t.withCpu c).stepCost = s.stepCost + cost ∧
      RegsKept [] s (t.withCpu c) ∧ SpKept s (t.withCpu c) ∧ FlagsKept s (t.withCpu c) ∧
      OutsideIs u (t.withCpu c) := by
  obtain ⟨hpasses, ⟨hcost, -⟩, hkept, -, hout, hread⟩ := h
  refine ⟨hpc.trans hpasses, hcost, fun r hr => (hregs r).trans (hkept r hr), hsp, hflags, ?_, hread⟩
  rw [hout]
  rfl

/-- Rule R402: HALT halts the CPU, or arms the HALT bug, by whether an interrupt waits while IME is
clear. -/
theorem State.enterHalt_eq (s : State) : s.enterHalt = s.withCpu { s.cpu with
    halted := s.cpu.halted || s.cpu.ime || s.ints.pending == 0
    haltBug := s.cpu.haltBug || !s.cpu.ime && s.ints.pending != 0 } := by
  rw [State.enterHalt, bne]
  cases s.cpu.ime <;> cases s.ints.pending == 0 <;> simp

/-- Rules R403, R463: a DIV write does to the timer what STOP does. -/
theorem State.storeByte_div_timer (s : State) (v : Byte) :
    (s.storeByte 0xFF04 v).timer = s.timer.divReset s.enable.timer := by
  rw [s.storeByte_io (s.target_reg 0xFF04 .div)]
  rfl

/-- Settles O34: each instruction writes control state alone after its start; STOP resets the divider
before it. -/
theorem cpuControl : Obligations.CpuControl := by
  intro s n
  have hstart := leaves_startInstr (s := s) rfl rfl 1 4 []
  refine ⟨⟨rfl, _, exec_nop s, startInstr_untaken s 1 4⟩, ⟨rfl, _, exec_di s, ?_⟩,
    ⟨rfl, _, exec_ei s, ?_⟩, ⟨rfl, _, exec_halt s, ?_⟩, rfl, _, exec_stop s n, ?_⟩
  · obtain ⟨hpasses, hcost, hrest⟩ := hstart.setControl
      (c := (s.startInstr 1 4).disableInterrupts.cpu) rfl (fun _ => rfl) rfl rfl
    exact ⟨rfl, rfl, rfl, rfl, hpasses, ⟨hcost, rfl⟩, hrest⟩
  · obtain ⟨hpasses, hcost, hrest⟩ := hstart.setControl
      (c := (s.startInstr 1 4).enableInterrupts.cpu) rfl (fun _ => rfl) rfl rfl
    exact ⟨rfl, rfl, rfl, rfl, hpasses, ⟨hcost, rfl⟩, hrest⟩
  · rw [State.enterHalt_eq]
    exact ⟨rfl, rfl, rfl, rfl, rfl, hstart.setControl rfl (fun _ => rfl) rfl rfl⟩
  · rw [s.storeByte_div_timer]
    have hreset := leaves_startInstr (s := s) (u := s.withTimer (s.timer.divReset s.enable.timer))
      rfl rfl 2 4 []
    obtain ⟨hpasses, hcost, hrest⟩ := hreset.setControl
      (c := (s.startInstr 2 4).enterStop.cpu) rfl (fun _ => rfl) rfl rfl
    exact ⟨rfl, rfl, rfl, rfl, hpasses, ⟨hcost, rfl⟩, hrest⟩

end Sys2Proof.Machine

namespace Sys2Proof.Machine

/-! # Every step (60_exceptions.md, 66_orchestrator.md R690) -/

/-! ## Legal states -/

/-- Rules R402, R403: leaving STOP keeps the CPU in at most one of its three special states. -/
theorem Cpu.legal_unstopped {c : Cpu} (h : c.legal = true) :
    ({ c with stopped := false } : Cpu).legal = true := by
  cases hh : c.halted <;> simp_all [Cpu.legal]

/-- Settles O11: each phase keeps the devices in their ranges; the CPU phase settles the CPU's state and the
end phase can only leave STOP. -/
theorem stepKeepsLegal : Obligations.StepKeepsLegal := by
  intro s t hlegal hstep
  obtain ⟨hcpu, hdev⟩ := s.legal_iff.1 hlegal
  obtain ⟨-, u, hphase, rfl⟩ := step_next hstep
  have phase := cpuPhase_next hphase
  have hu : (devicePhase s.cpu.stopped u.stepCost u).cpu.legal = true := by
    rw [(devicePhase_fields _ _ u).cpu]
    exact phase.cpu hcpu
  refine (State.legal_iff _).2 ⟨?_, ((phase.reach.devLegal hdev).devicePhase _ _).endPhase _⟩
  obtain h | h := endPhase_cpu s.cpu.stopped (devicePhase s.cpu.stopped u.stepCost u)
  · exact h ▸ hu
  · exact h ▸ Cpu.legal_unstopped hu

/-! ## What a step costs and what it may change (66_orchestrator.md R690-R693) -/

/-- Rules R3, R94, R147, R691, R693: what every step that completes leaves. -/
theorem step_cost_and_fixed {s t : State} (h : step s = .next t) :
    (t.stepCost % 4 = 0 ∧ 4 ≤ t.stepCost ∧ t.stepCost ≤ 28) ∧ t.cycles = s.cycles + t.stepCost ∧
      Fixed s t ∧ t.fault = none := by
  obtain ⟨hfault, u, hphase, rfl⟩ := step_next h
  have phase := cpuPhase_next hphase
  obtain ⟨hfixed, hcycles⟩ := phase.reach.fixed
  have hdev := devicePhase_fields s.cpu.stopped u.stepCost u
  obtain ⟨hend, hendCycles, hendCost, -⟩ := endPhase_fields s.cpu.stopped
    (devicePhase s.cpu.stopped u.stepCost u)
  have hcost := hendCost.trans hdev.stepCost
  have hall : Fixed s (endPhase s.cpu.stopped (devicePhase s.cpu.stopped u.stepCost u)) :=
    (hfixed.trans ⟨hdev.fixed.rom, hdev.fixed.model, hdev.fixed.enable, hdev.fixed.version,
      hdev.fixed.fault⟩).trans hend
  refine ⟨by rw [hcost]; exact phase.cost, ?_, hall, hall.fault.trans hfault⟩
  rw [hendCycles, hdev.cycles, hcost, ← hcycles]

/-! ## One master cycle (66_orchestrator.md R690, R692) -/

/-- Rules R43, R421: a request sets its own IF bit. -/
theorem Interrupts.requestIf_getLsbD (x : Interrupts) (b : Bool) {i : Nat} (hi : i < 5) (j : Nat) :
    (x.requestIf b i).iflag.getLsbD j = (x.iflag.getLsbD j || (b && decide (j = i))) := by
  cases b with
  | false => simp [Interrupts.requestIf]
  | true =>
    have hbit : (BitVec.ofNat 5 (2 ^ i)).getLsbD j = decide (j = i) := by
      rw [BitVec.getLsbD_ofNat, Nat.testBit_two_pow, Bool.eq_iff_iff]
      simp
      omega
    rw [Interrupts.requestIf, if_pos rfl, BitVec.getLsbD_or, hbit, Bool.true_and]

/-- Rule R421: a request changes IF alone. -/
@[simp] theorem Interrupts.requestIf_ie (x : Interrupts) (b : Bool) (i : Nat) :
    (x.requestIf b i).ie = x.ie := by
  cases b <;> rfl

/-- Rules R41-R43: IE and IF are all there is. -/
theorem Interrupts.eq_of_ie {x y : Interrupts} (h : x.ie = y.ie) : { y with iflag := x.iflag } = x := by
  rw [← h]

section
variable (s : State)

theorem State.timerPhase_eq : s.timerPhase = { s with
    timer := if s.enable.timer then s.timer.tick.1 else s.timer
    ints := s.ints.requestIf (s.enable.timer && s.timer.tick.2) 2 } := by
  unfold State.timerPhase
  cases h : s.enable.timer <;> rfl

theorem State.serialPhase_eq : s.serialPhase = { s with
    serial := if s.enable.serial then (s.serial.tick s.cycles).1 else s.serial
    ints := s.ints.requestIf (s.enable.serial && (s.serial.tick s.cycles).2) 3 } := by
  unfold State.serialPhase
  cases h : s.enable.serial <;> rfl

theorem State.apuPhase_eq : s.apuPhase =
    { s with apu := if s.enable.apu then s.apu.tick s.mem.waveRam else s.apu } := by
  unfold State.apuPhase
  cases h : s.enable.apu <;> rfl

theorem State.ppuPhase_eq : s.ppuPhase =
    let r := s.ppu.tick s.model s.draws s.mem.vram s.mem.oam
    { s with
      ppu := if s.enable.ppu then r.ppu else s.ppu
      ints := (s.ints.requestIf (s.enable.ppu && r.vblank) 0).requestIf (s.enable.ppu && r.stat) 1
      draws := if s.enable.ppu then s.draws + r.drawn else s.draws } := by
  unfold State.ppuPhase
  cases h : s.enable.ppu <;> rfl

/-- Rules R513, R516: a copy looks at no interrupt, no timer and no cycle counter. -/
theorem State.dmaPhase_congr (t : Timer) (x : Interrupts) (n : Nat) :
    ({ s with timer := t, ints := x, cycles := n } : State).dmaPhase =
      { s.dmaPhase with timer := t, ints := x, cycles := n } := by
  unfold State.dmaPhase State.dmaTick
  dsimp only
  split_ifs <;> rfl

theorem State.dmaPhase_frame : s.dmaPhase =
    { s with dma := s.dmaPhase.dma, mem := { s.mem with oam := s.dmaPhase.mem.oam } } := by
  unfold State.dmaPhase
  split
  · exact s.dmaTick_fields
  · rfl

/-- Rule R513: an idle unit copies nothing. -/
theorem State.dmaPhase_eq :
    s.dmaPhase = if s.enable.dma = true ∧ s.dma.active = true then s.dmaTick else s := by
  unfold State.dmaPhase State.dmaTick
  cases s.enable.dma <;> cases s.dma.active <;> simp

/-- Rules R690, R692: what one running master cycle leaves, device by device. -/
theorem State.masterCycle_running :
    let r := s.ppu.tick s.model s.draws s.mem.vram s.dmaPhase.mem.oam
    s.masterCycle false = { s with
      cycles := s.cycles + 1
      timer := if s.enable.timer then s.timer.tick.1 else s.timer
      dma := s.dmaPhase.dma
      mem := { s.mem with oam := s.dmaPhase.mem.oam }
      serial := if s.enable.serial then (s.serial.tick (s.cycles + 1)).1 else s.serial
      apu := if s.enable.apu then s.apu.tick s.mem.waveRam else s.apu
      ppu := if s.enable.ppu then r.ppu else s.ppu
      draws := if s.enable.ppu then s.draws + r.drawn else s.draws
      cart := s.rtcPhase.cart
      ints := (((s.ints.requestIf (s.enable.timer && s.timer.tick.2) 2).requestIf
        (s.enable.serial && (s.serial.tick (s.cycles + 1)).2) 3).requestIf
        (s.enable.ppu && r.vblank) 0).requestIf (s.enable.ppu && r.stat) 1 } := by
  have hdma : s.countCycle.timerPhase.dmaPhase = { s with
      cycles := s.cycles + 1
      timer := if s.enable.timer then s.timer.tick.1 else s.timer
      ints := s.ints.requestIf (s.enable.timer && s.timer.tick.2) 2
      dma := s.dmaPhase.dma
      mem := { s.mem with oam := s.dmaPhase.mem.oam } } := by
    rw [s.countCycle.timerPhase_eq]
    refine (s.dmaPhase_congr _ _ _).trans ?_
    rw [s.dmaPhase_frame]
    rfl
  simp only [State.masterCycle, State.devices, Bool.false_eq_true, if_false]
  rw [hdma, State.serialPhase_eq, State.apuPhase_eq, State.ppuPhase_eq]
  rfl

end

/-! ## The end phase (62_serial_joypad.md R501, 66_orchestrator.md R690) -/

/-- Rules R403, R501: the end phase samples the joypad and may leave STOP. -/
theorem endPhase_eq (frozen : Bool) (s : State) : endPhase frozen s = { s with
    joypad := { s.joypad with prev := s.joypad.lines s.cycles }
    ints := s.ints.requestIf (s.joypad.prev &&& ~~~(s.joypad.lines s.cycles) != 0) 4
    cpu := { s.cpu with
      stopped := s.cpu.stopped && !(frozen && decide (s.joypad.lines s.cycles ≠ 0xF)) } } := by
  have hwakes : s.sampleJoypad.joypad.wakes s.sampleJoypad.cycles =
      decide (s.joypad.lines s.cycles ≠ 0xF) := by
    rw [Bool.eq_iff_iff, decide_eq_true_iff, ← bne_iff_ne]; rfl
  unfold endPhase State.leaveStop
  rw [hwakes]
  cases frozen && decide (s.joypad.lines s.cycles ≠ 0xF) with
  | false => simp [State.sampleJoypad, Joypad.sample]
  | true => simp [State.sampleJoypad, Joypad.sample, State.withCpu]

/-- Settles O10: the cost and the frame by the step's phases, the master cycle device by device, and the end
phase by what it samples. -/
theorem stepCost : Obligations.StepCost := by
  refine ⟨fun s t h => ?_, fun _ _ _ => ⟨rfl, rfl⟩, fun s => ?_, fun frozen s => ?_⟩
  · obtain ⟨⟨hmod, hlo, hhi⟩, hcycles, hfixed, hfault⟩ := step_cost_and_fixed h
    exact ⟨⟨hmod, hlo, hhi, hcycles⟩, hfixed.rom, hfixed.model, hfixed.enable, hfixed.version, hfault⟩
  · intro clock copied picture u
    have hcopied : copied = s.dmaPhase := s.dmaPhase_eq.symm
    have hmem : s.dmaPhase.mem = { s.mem with oam := s.dmaPhase.mem.oam } :=
      congrArg State.mem s.dmaPhase_frame
    have hu := s.masterCycle_running
    have hints : u.ints = _ := congrArg State.ints hu
    have hbit (j : Nat) : u.ints.iflag.getLsbD j = _ := congrArg (fun x => x.iflag.getLsbD j) hints
    simp only [Interrupts.requestIf_getLsbD, Nat.reduceLT] at hbit
    subst picture
    rw [hcopied]
    refine ⟨rfl, ?_, ?_, ?_, ?_, ?_, ?_⟩
    · have hie : u.ints.ie = s.ints.ie := by simp [hints]
      rw [Interrupts.eq_of_ie hie, hmem, hints]
      exact hu
    all_goals rw [hbit]; simp
  · have hie : (endPhase frozen s).ints.ie = s.ints.ie := by simp [endPhase_eq]
    rw [Interrupts.eq_of_ie hie, endPhase_eq]

end Sys2Proof.Machine

namespace Sys2Proof.Machine

/-! ## Faults (60_exceptions.md R440) and completion (R442) -/

/-- The operation does not end in a fault. -/
def Faultless {α : Type} (r : Answer α) : Prop := ∀ f, r ≠ .fault f

namespace Faultless

theorem next {α : Type} (t : α) : Faultless (.next t : Answer α) := fun _ h => by cases h

theorem writeByte (a : Word) (v : Byte) (s : State) : Faultless (writeByte a v s) :=
  fun _ => writeByte_fault

theorem chain {r : Result} {k : State → Result} (hr : Faultless r) (hk : ∀ u, Faultless (k u)) :
    Faultless (chain r k) := fun f h => by
  obtain h | ⟨u, -, h⟩ := chain_fault.1 h
  · exact hr f h
  · exact hk u f h

theorem withRead {α : Type} {a : Word} {s : State} {k : Byte → State → Answer α}
    (hk : ∀ v u, Faultless (k v u)) : Faultless (withRead a s k) := by
  unfold Machine.withRead
  split
  · exact hk _ _
  · exact hk _ _
  · exact fun _ h => by cases h

theorem pushWord (v : Word) (s : State) : Faultless (pushWord v s) :=
  .chain (.writeByte _ _ _) fun _ => .writeByte _ _ _

theorem popWord {s : State} {k : Word → State → Result} (hk : ∀ v u, Faultless (k v u)) :
    Faultless (popWord s k) := .withRead fun _ _ => .withRead fun _ _ => hk _ _

theorem callTo (target : Word) (s : State) : Faultless (callTo target s) :=
  .chain (.pushWord _ _) fun _ => .next _

theorem returnTo (s : State) : Faultless (returnTo s) := .popWord fun _ _ => .next _

theorem updateAtHl (f : Byte → Flags → Flagged) (s : State) : Faultless (updateAtHl f s) :=
  .withRead fun _ _ => .chain (.writeByte _ _ _) fun _ => .next _

theorem modifyAtHl (f : Byte → Byte) (s : State) : Faultless (modifyAtHl f s) :=
  .withRead fun _ _ => .writeByte _ _ _

theorem takeInterrupt (i : Nat) (s : State) : Faultless (takeInterrupt i s) :=
  .chain (.pushWord _ _) fun _ => .next _

end Faultless

/-- Rules R407, R440: an instruction faults exactly when its byte is illegal, with its address in PC. -/
theorem exec_fault {i : Instr} {s : State} {f : Fault} (h : exec i s = .fault f) :
    ∃ o, i = .illegal o ∧ f = .invalidOpcode o.code s.cpu.pc := by
  suffices hfamily : (∃ o, i = .illegal o) ∨ Faultless (exec i s) by
    obtain ⟨o, rfl⟩ | hfree := hfamily
    · rw [exec_illegal] at h
      cases h
      exact ⟨o, rfl, rfl⟩
    · exact absurd h (hfree f)
  apply Instr.byFamily (P := fun i => (∃ o, i = .illegal o) ∨ Faultless (exec i s)) (i := i)
  case h_illegal => exact fun o => .inl ⟨o, rfl⟩
  case h_ldMnnSp => exact fun nn => .inr (.chain (.writeByte _ _ _) fun _ => .writeByte _ _ _)
  case h_ret => exact .inr (.returnTo _)
  case h_reti => rw [exec_reti]; exact .inr (.popWord fun _ _ => .next _)
  case h_pushPair => intro p; rw [exec_pushPair]; exact .inr (.pushWord _ _)
  case h_popPair => intro p; rw [exec_popPair]; exact .inr (.popWord fun _ _ => .next _)
  case h_callNn => exact fun nn => .inr (.callTo _ _)
  case h_rstVec => intro y; rw [exec_rstVec]; exact .inr (.callTo _ _)
  case h_callCond => intro cc nn; rw [exec_callCond]; split; exacts [.inr (.callTo _ _), .inr (.next _)]
  case h_retCond => intro cc; rw [exec_retCond]; split; exacts [.inr (.returnTo _), .inr (.next _)]
  case h_jpCond => intro cc nn; rw [exec_jpCond]; split <;> exact .inr (.next _)
  case h_jrCond => intro cc e; rw [exec_jrCond]; split <;> exact .inr (.next _)
  case h_bitMem => intro b; rw [exec_bitMem]; exact .inr (.withRead fun _ _ => .next _)
  case h_aluMem => intro o; rw [exec_aluMem]; exact .inr (.withRead fun _ _ => .next _)
  case h_shiftMem | h_incMhl | h_decMhl =>
    intros; simp only [exec_shiftMem, exec_incMhl, exec_decMhl]; exact .inr (.updateAtHl _ _)
  case h_resMem | h_setMem =>
    intros; simp only [exec_resMem, exec_setMem]; exact .inr (.modifyAtHl _ _)
  case h_ldRegMem | h_ldAMbc | h_ldAMde | h_ldhAMn | h_ldhAMc | h_ldAMnn | h_ldAMhli | h_ldAMhld =>
    intros
    simp only [exec_ldRegMem, exec_ldAMbc, exec_ldAMde, exec_ldhAMn, exec_ldhAMc, exec_ldAMnn,
      exec_ldAMhli, exec_ldAMhld]
    exact .inr (.withRead fun _ _ => .next _)
  case h_ldMemReg | h_ldMbcA | h_ldMdeA | h_ldMhlN | h_ldhMnA | h_ldhMcA | h_ldMnnA =>
    intros
    simp only [exec_ldMemReg, exec_ldMbcA, exec_ldMdeA, exec_ldMhlN, exec_ldhMnA, exec_ldhMcA, exec_ldMnnA]
    exact .inr (.writeByte _ _ _)
  case h_ldMhliA | h_ldMhldA => exact .inr (.chain (.writeByte _ _ _) fun _ => .next _)
  all_goals
    intros
    simp only [exec_ldRegReg, exec_ldRegImm, exec_aluReg, exec_aluImm, exec_incReg, exec_decReg,
      exec_ldPairImm, exec_addHlPair, exec_incPair, exec_decPair, exec_shiftReg, exec_bitReg,
      exec_resReg, exec_setReg, exec_nop, exec_rlca, exec_rrca, exec_jrE, exec_rla, exec_rra,
      exec_daa, exec_cpl, exec_scf, exec_ccf, exec_jpNn, exec_addSpE, exec_jpHl, exec_ldHlSpE,
      exec_ldSpHl, exec_stop, exec_halt, exec_di, exec_ei]
    exact .inr (.next _)

/-- Settles O14: no refusal the spec gives is possible in such a state, and only the illegal bytes fault. -/
theorem everyInstructionCompletes : Obligations.EveryInstructionCompletes := by
  intro i s hlegal hmodel hdma hch3
  cases h : exec i s with
  | next t => exact ⟨t, rfl⟩
  | fault f =>
    obtain ⟨o, hi, -⟩ := exec_fault h
    exact absurd hi (hlegal o)
  | refused q =>
    have hallowed := (exec_ends i s).refused h
    cases q with
    | dmaBusConflict a => simp [RefusalAllowed, hdma] at hallowed
    | cgbRegister a => exact absurd hallowed.1 hmodel
    | waveRamWhilePlaying a => simp [RefusalAllowed, hch3] at hallowed
    | notModelled name => exact hallowed.elim

theorem withRead_fault {α : Type} {s : State} {a : Word} {k : Byte → State → Answer α} {f : Fault}
    (h : withRead a s k = .fault f) : ∃ v u, ReadsAs s a v u ∧ k v u = .fault f := by
  obtain ⟨v, u, hread⟩ | ⟨q, hq⟩ := readsAs_or_refused s a
  · exact ⟨v, u, hread, by rwa [withRead_of_readsAs k hread] at h⟩
  · simp [withRead, hq] at h

/-- Rule R221: a fetch that ends in a fault read an opcode at PC and handed on the instruction it names. -/
theorem fetchThen_fault {α : Type} {s : State} {k : Instr → State → Answer α} {f : Fault}
    (h : fetchThen s k = .fault f) : ∃ op n1 n2 m u, ReadsAs s s.cpu.pc op m ∧ u.cpu = s.cpu ∧
      k ((opcodeEntry op).build n1 n2) u = .fault f := by
  obtain ⟨op, m, hop, h⟩ := withRead_fault h
  dsimp only at h
  split at h
  · exact ⟨op, 0, 0, m, m, hop, hop.cpu, h⟩
  · obtain ⟨n1, u, hn1, h⟩ := withRead_fault h
    exact ⟨op, n1, 0, m, u, hop, hn1.cpu.trans hop.cpu, h⟩
  · obtain ⟨n1, u, hn1, h⟩ := withRead_fault h
    obtain ⟨n2, w, hn2, h⟩ := withRead_fault h
    exact ⟨op, n1, n2, m, w, hop, (hn2.cpu.trans hn1.cpu).trans hop.cpu, h⟩

/-- Rules R407, R440: an instruction's fault is that of the illegal byte fetched at PC. -/
theorem runInstr_fault {s : State} {f : Fault} (h : runInstr s = .fault f) :
    ∃ (o : IllegalOp) (m : State), ReadsAs s s.cpu.pc o.code m ∧ f = .invalidOpcode o.code s.cpu.pc := by
  obtain h | ⟨_, -, h⟩ := chain_fault.1 h
  · obtain ⟨op, n1, n2, m, u, hop, hcpu, h⟩ := fetchThen_fault h
    obtain ⟨o, ho, rfl⟩ := exec_fault h
    have hcode := encode_build op n1 n2
    rw [ho, encode_illegal] at hcode
    obtain ⟨rfl, -⟩ := List.cons.inj hcode
    exact ⟨o, m, hop, by rw [hcpu]⟩
  · cases h

theorem runAwake_fault {s : State} {f : Fault} (h : runAwake s = .fault f) : runInstr s = .fault f := by
  unfold runAwake at h
  split at h
  · exact absurd h (Faultless.takeInterrupt _ _ f)
  · exact h

/-- Rule R145: what a CPU read gives does not depend on the CPU's registers or the cost counter. -/
theorem ReadsAs.of_outside {s x m : State} {a : Word} {v : Byte} (h : ReadsAs x a v m)
    (hread : x.busRead a = s.busRead a) (hdraws : x.draws = s.draws) : ∃ u, ReadsAs s a v u := by
  rcases h with ⟨h, -⟩ | ⟨h, rfl, -⟩
  · exact ⟨s, .inl ⟨hread ▸ h, rfl⟩⟩
  · exact ⟨_, .inr ⟨hread ▸ h, by rw [hdraws], rfl⟩⟩

theorem cpuPhase_fault {s : State} {f : Fault} (h : cpuPhase s = .fault f) :
    ∃ (o : IllegalOp) (u : State), ReadsAs s s.cpu.pc o.code u ∧ f = .invalidOpcode o.code s.cpu.pc := by
  unfold cpuPhase at h
  dsimp only at h
  split_ifs at h
  · obtain ⟨o, m, hread, hf⟩ := runInstr_fault (runAwake_fault h)
    obtain ⟨u, hu⟩ := hread.of_outside (s := s) rfl rfl
    exact ⟨o, u, hu, hf⟩
  · obtain ⟨o, m, hread, hf⟩ := runInstr_fault (runAwake_fault h)
    obtain ⟨u, hu⟩ := hread.of_outside (s := s) rfl rfl
    exact ⟨o, u, hu, hf⟩

/-- Settles O9: a kept fault is answered at once; a new one is raised by the CPU phase, at an illegal byte. -/
theorem onlyIllegalOpcodesFault : Obligations.OnlyIllegalOpcodesFault := by
  refine ⟨fun s f hfault => ?_, fun s f hfault hstep => ⟨by rw [clock, hstep], ?_⟩⟩
  · have hstep : step s = .fault f := by rw [step, runStep, hfault]
    have hkept : { s with fault := some f } = s := by rw [← hfault]
    exact ⟨hstep, by simp only [clock, hstep, hkept]⟩
  · rw [step_of_no_fault hfault] at hstep
    obtain h | ⟨_, -, h⟩ := chain_fault.1 hstep
    · exact cpuPhase_fault h
    · cases h

/-! ## Taking an interrupt (60_exceptions.md R423-R426) -/

/-- Rule R424: the lowest pending bit is the one dispatched. -/
theorem firstPending_eq {p : BitVec 5} {i : Nat} (hi : p.getLsbD i = true)
    (hlow : ∀ j, j < i → p.getLsbD j = false) : firstPending p = i := by
  have hlt := BitVec.lt_of_getLsbD hi
  interval_cases i <;>
    simp (decide := true) only [firstPending, hi, hlow, if_true, if_false]

/-- Rule R425: a dispatch clears its own request bit. -/
theorem Interrupts.acknowledge_getLsbD (x : Interrupts) {i : Nat} (hi : i < 5) (j : Nat) :
    (x.acknowledge i).iflag.getLsbD j = (x.iflag.getLsbD j && decide (j ≠ i)) := by
  by_cases hj : j < 5
  · have hbit : (BitVec.ofNat 5 (2 ^ i)).getLsbD j = decide (j = i) := by
      rw [BitVec.getLsbD_ofNat, Nat.testBit_two_pow, Bool.eq_iff_iff]
      simp
      omega
    rw [Interrupts.acknowledge, BitVec.getLsbD_and, BitVec.getLsbD_not, hbit]
    simp [hj]
  · rw [BitVec.getLsbD_of_ge _ _ (Nat.not_lt.1 hj), BitVec.getLsbD_of_ge _ _ (Nat.not_lt.1 hj),
      Bool.false_and]

/-- Rule R690: a store does not look at the cost counter. -/
theorem State.storeByte_beginStep (s : State) (a : Word) (v : Byte) :
    s.beginStep.storeByte a v = (s.storeByte a v).beginStep := by
  have hcost : (s.beginStep.storeByte a v).stepCost = 0 := s.beginStep.storeByte_stepCost a v
  have hs : s = s.beginStep.addCost s.stepCost := by
    simp [State.beginStep, State.addCost]
  conv_rhs => rw [hs, State.storeByte_addCost]
  show _ = { s.beginStep.storeByte a v with stepCost := 0 }
  rw [← hcost]

theorem Pushes.beginStep {s u : State} {v : Word} (h : Pushes s v u) : Pushes s.beginStep v u.beginStep := by
  obtain ⟨h1, h2, rfl⟩ := h
  refine ⟨h1, ?_, ?_⟩
  · rw [State.storeByte_beginStep]; exact h2
  · rw [State.storeByte_beginStep, State.storeByte_beginStep]; rfl

theorem PushRefused.beginStep {s : State} {v : Word} {q : Refusal} (h : PushRefused s v q) :
    PushRefused s.beginStep v q := by
  refine h.imp id fun ⟨h1, h2⟩ => ⟨h1, ?_⟩
  rw [State.storeByte_beginStep]
  exact h2

/-- Rules R425, R429: the register file a dispatch pushes from, awake. -/
def Cpu.dispatching (c : Cpu) : Cpu :=
  { c with halted := false, ime := false, imeDelay := false, haltBug := false }

theorem Cpu.dispatching_of_awake {c : Cpu} (h : c.halted = false) :
    c.dispatching = { c with ime := false, imeDelay := false, haltBug := false } := by
  rw [Cpu.dispatching, ← h]

/-- Rules R425, R429, R690: with a dispatch due the CPU phase is the dispatch, after a wake-up if the CPU
was halted. -/
theorem cpuPhase_dispatch {s : State} (hstopped : s.cpu.stopped = false) (hime : s.cpu.ime = true)
    (hpending : s.ints.pending ≠ 0) : cpuPhase s =
      chain (pushWord s.returnAddress
        ((s.beginStep.withCpu s.cpu.dispatching).addCost (if s.cpu.halted then 4 else 0))) fun t =>
        .next (((t.withInts (t.ints.acknowledge (firstPending s.ints.pending))).setPc
          (vector (firstPending s.ints.pending))).addCost 20) := by
  have hidles : s.beginStep.idles = false := by
    simp only [State.idles, State.beginStep, hstopped, beq_false_of_ne hpending, Bool.and_false,
      Bool.or_false]
  have hdue : s.beginStep.dispatches = true := by
    show (s.cpu.ime && s.ints.pending != 0) = true
    rw [hime, Bool.true_and, bne_iff_ne]
    exact hpending
  have hwoken : s.beginStep.wake.dispatches = true := hdue
  unfold cpuPhase
  cases hhalted : s.cpu.halted with
  | true =>
    have hasleep : s.beginStep.cpu.halted = true := hhalted
    simp only [hidles, Bool.false_eq_true, if_false, hasleep, if_true, runAwake, hwoken]
    rfl
  | false =>
    have hawake : s.beginStep.cpu.halted = false := hhalted
    have hcpu : s.beginStep.enterDispatch = (s.beginStep.withCpu s.cpu.dispatching).addCost 0 := by
      rw [Cpu.dispatching_of_awake hhalted]
      rfl
    simp only [hidles, Bool.false_eq_true, if_false, hawake, runAwake, hdue, if_true, takeInterrupt, hcpu]
    rfl

/-- Settles O7: the dispatch is `push16` of the return address, then the acknowledgement and the vector. -/
theorem interruptDispatch : Obligations.InterruptDispatch := by
  intro s u i hfault hstopped hime hi hlow
  have hlt := BitVec.lt_of_getLsbD hi
  have hpending : s.ints.pending ≠ 0 := fun h => by simp [h] at hi
  have hstep := step_of_no_fault hfault
  rw [cpuPhase_dispatch hstopped hime hpending, firstPending_eq hi hlow, hstopped] at hstep
  refine ⟨fun q hq => ?_, fun hpush => ?_⟩
  · have hpush : pushWord s.returnAddress _ = _ := hq.beginStep.pushWord s.cpu.dispatching rfl
      (if s.cpu.halted then 4 else 0)
    rw [hstep, hpush]
    rfl
  · have hpushed : pushWord s.returnAddress _ = _ := hpush.beginStep.pushWord s.cpu.dispatching rfl
      (if s.cpu.halted then 4 else 0)
    rw [hpushed, chain_of_next, chain_of_next] at hstep
    refine ⟨_, hstep, ?_, ?_, rfl, rfl, rfl, rfl, rfl, hstopped, ?_, rfl, ?_, rfl⟩
    · show 0 + (if s.cpu.halted then 4 else 0) + 20 = _
      split <;> rfl
    · show (vector i).toNat = _
      rw [vector, BitVec.toNat_ofNat]
      omega
    · intro r _
      cases r <;> rfl
    · exact u.ints.acknowledge_getLsbD hlt

end Sys2Proof.Machine

namespace Sys2Proof.Machine

/-! ## The host's operations (66_orchestrator.md R694-R696, R705) -/

/-- Rule R694: a `clock()` without a fault or refusal is one step, and returns its cost. -/
theorem clock_done {s t : State} {cost : Nat} (h : clock s = (t, cost, .done)) :
    step s = .next t ∧ cost = t.stepCost := by
  unfold clock at h
  split at h <;> cases h
  exact ⟨by assumption, rfl⟩

/-- Rules R691, R695, R696: a run that ends without a fault or refusal stops at the first total past the
target; every step costs at least 4, so the fuel is enough. -/
theorem runCycles_done {target fuel total total' : Nat} {s t : State}
    (h : runCycles target fuel total s = (t, total', .done)) (hfuel : target ≤ total + fuel)
    (hbelow : total < target + 28) :
    target ≤ total' ∧ total' < target + 28 ∧ t.cycles + total = s.cycles + total' := by
  induction fuel generalizing total s with
  | zero =>
    cases h
    exact ⟨hfuel, hbelow, rfl⟩
  | succ fuel ih =>
    unfold runCycles at h
    split at h
    · cases h
      exact ⟨by assumption, hbelow, rfl⟩
    · split at h
      · rename_i u cost hclock
        obtain ⟨hstep, rfl⟩ := clock_done hclock
        obtain ⟨⟨-, hlo, hhi⟩, hcycles, -⟩ := step_cost_and_fixed hstep
        obtain ⟨hge, hlt, hsum⟩ := ih h (by omega) (by omega)
        exact ⟨hge, hlt, by omega⟩
      · rename_i hnot _
        cases h
        exact (hnot rfl).elim

/-- Rule R705: `set_palette` takes four colours and no other number. -/
theorem setPalette_of_length_ne {colors : List Rgb} (h : colors.length ≠ 4) (s : State) :
    setPalette colors s = .error .invalidPalette := by
  unfold setPalette
  split
  · exact absurd rfl h
  · rfl

/-- Settles O60: both calls are `runCycles` from 0 with enough fuel. -/
theorem hostOperations : Obligations.HostOperations := by
  refine fun s t count total => ⟨fun h => ?_, fun h => ?_, rfl, rfl,
    fun colors h => setPalette_of_length_ne h s, fun _ _ _ _ => rfl⟩
  all_goals
    obtain ⟨hge, hlt, hcycles⟩ := runCycles_done h (by omega) (by omega)
    exact ⟨hge, hlt, by omega⟩

/-! # The devices

## The joypad (62_serial_joypad.md R500, R501) -/

/-- Rule R9: four bits side by side, the first highest. -/
theorem getLsbD_ofBool_append : ∀ a b c d : Bool,
    let x := BitVec.ofBool a ++ BitVec.ofBool b ++ BitVec.ofBool c ++ BitVec.ofBool d
    x.getLsbD 3 = a ∧ x.getLsbD 2 = b ∧ x.getLsbD 1 = c ∧ x.getLsbD 0 = d := by
  decide

/-- Rule R500: the four lines, one by one. -/
theorem Joypad.lines_bits (now : Nat) (j : Joypad) :
    let b := j.buttonsAt now
    let dpad := !j.select.getLsbD 0
    let action := !j.select.getLsbD 1
    (j.lines now).getLsbD 3 = !(dpad && b.down || action && b.start) ∧
      (j.lines now).getLsbD 2 = !(dpad && b.up || action && b.select) ∧
      (j.lines now).getLsbD 1 = !(dpad && b.left || action && b.b) ∧
      (j.lines now).getLsbD 0 = !(dpad && b.right || action && b.a) := by
  exact getLsbD_ofBool_append _ _ _ _

/-- Rule R500: a P1 read is two ones, the select bits and the lines. -/
theorem Joypad.read_bits (now : Nat) (j : Joypad) :
    (j.read now).getLsbD 7 = true ∧ (j.read now).getLsbD 6 = true ∧
      (j.read now).getLsbD 5 = j.select.getLsbD 1 ∧ (j.read now).getLsbD 4 = j.select.getLsbD 0 ∧
      ∀ k, k < 4 → (j.read now).getLsbD k = (j.lines now).getLsbD k := by
  simp (decide := true) +contextual only [Joypad.read, BitVec.getLsbD_append, if_true, if_false, and_self,
    implies_true]

theorem Joypad.lines_of_read (now : Nat) (j : Joypad) : (j.read now).extractLsb' 0 4 = j.lines now := by
  apply BitVec.eq_of_getLsbD_eq
  intro k hk
  obtain ⟨-, -, -, -, hlines⟩ := j.read_bits now
  rw [BitVec.getLsbD_extractLsb', Nat.zero_add, hlines k hk, decide_eq_true hk, Bool.true_and]

/-- Rule R501: a line fell since the last sample. -/
theorem lines_fell_iff (old new : BitVec 4) : (old &&& ~~~new != 0) = true ↔
    ∃ k, k < 4 ∧ old.getLsbD k = true ∧ new.getLsbD k = false := by
  rw [bne_iff_ne]
  constructor
  · intro h
    by_contra hnone
    refine h (BitVec.eq_of_getLsbD_eq fun k hk => ?_)
    have : old.getLsbD k = true → new.getLsbD k = true := fun ho => by
      by_contra hn
      exact hnone ⟨k, hk, ho, by simpa using hn⟩
    rw [BitVec.getLsbD_and, BitVec.getLsbD_not, decide_eq_true hk]
    cases ho : old.getLsbD k <;> simp_all
  · rintro ⟨k, hk, ho, hn⟩ h
    have hbit : (old &&& ~~~new).getLsbD k = false := by rw [h]; exact BitVec.getLsbD_zero
    rw [BitVec.getLsbD_and, BitVec.getLsbD_not, ho, hn, decide_eq_true hk] at hbit
    exact absurd hbit (by decide)

/-- Settles O47: P1 is at 0xFF00 in every mode; the end phase samples its lines. -/
theorem joypadLines : Obligations.JoypadLines := by
  intro s b dpad action
  obtain ⟨h7, h6, h5, h4, hlow⟩ := s.joypad.read_bits s.cycles
  obtain ⟨hl3, hl2, hl1, hl0⟩ := s.joypad.lines_bits s.cycles
  refine ⟨s.joypad.read s.cycles, s.busRead_io (s.target_reg 0xFF00 .p1), h7, h6, h5, h4,
    (hlow 3 (by decide)).trans hl3, (hlow 2 (by decide)).trans hl2, (hlow 1 (by decide)).trans hl1,
    (hlow 0 (by decide)).trans hl0, fun frozen => ?_⟩
  rw [endPhase_eq, Joypad.lines_of_read]
  refine ⟨rfl, ?_, fun j hj => ?_⟩
  · rw [Interrupts.requestIf_getLsbD _ _ (by decide), decide_eq_true rfl, Bool.and_true, Bool.or_eq_true,
      lines_fell_iff]
    refine or_congr_right (exists_congr fun k => ?_)
    constructor
    · rintro ⟨hk, ho, hn⟩; exact ⟨hk, ho, (hlow k hk).trans hn⟩
    · rintro ⟨hk, ho, hn⟩; exact ⟨hk, ho, (hlow k hk).symm.trans hn⟩
  · rw [Interrupts.requestIf_getLsbD _ _ (by decide), decide_eq_false (by omega), Bool.and_false,
      Bool.or_false]

/-! ## The OAM-DMA unit (63_oam_dma.md R511-R515) -/

/-- Settles O41: 0xFF46 is the DMA register; the gate is `busTaken`, which nothing else of a read or of a
refusal looks at. -/
theorem dmaBusGate : Obligations.DmaBusGate := by
  refine ⟨fun s v => ?_, fun s a v hactive => ⟨fun hlow => ?_, fun hhigh => ?_, fun hhigh => ?_⟩⟩
  · rw [s.storeByte_io (s.target_reg 0xFF46 .dma)]
    rfl
  · have htaken := State.busTaken_iff.2 ⟨hactive, hlow⟩
    exact ⟨by rw [State.busRead, if_pos htaken], by rw [State.writeRefusal, if_pos htaken]⟩
  · rw [State.busRead_of_free s (s.busTaken_of_high hhigh),
      State.busRead_of_free _ (State.busTaken_of_high _ hhigh)]
    rfl
  · rw [State.writeRefusal, State.writeRefusal, s.busTaken_of_high hhigh, State.busTaken_of_high _ hhigh]
    rfl

/-- The first of two runs of ticks is run first. -/
theorem repeatTick_add {α : Type} (f : α → α) (m n : Nat) (x : α) :
    repeatTick f (m + n) x = repeatTick f n (repeatTick f m x) := by
  induction m generalizing x with
  | zero => rw [Nat.zero_add]; rfl
  | succ m ih => rw [Nat.succ_add]; exact ih (f x)

theorem repeatTick_succ {α : Type} (f : α → α) (n : Nat) (x : α) :
    repeatTick f (n + 1) x = f (repeatTick f n x) := repeatTick_add f n 1 x

/-- Rule R513: a byte is copied in the fourth master cycle. -/
theorem State.four_dmaTicks {s : State} (hactive : s.dma.active = true) (hsub : s.dma.sub = 0) :
    repeatTick State.dmaTick 4 s = s.dmaCopy := by
  have htick (n : Nat) (hn : n < 3) : State.dmaTick { s with dma := { s.dma with sub := n } } =
      { s with dma := { s.dma with sub := n + 1 } } := by
    have hfourth : ¬ n + 1 = 4 := by omega
    simp [State.dmaTick, hactive, hfourth]
  have hs : { s with dma := { s.dma with sub := 0 } } = s := by rw [← hsub]
  calc repeatTick State.dmaTick 4 s
    _ = repeatTick State.dmaTick 4 { s with dma := { s.dma with sub := 0 } } := by rw [hs]
    _ = State.dmaTick { s with dma := { s.dma with sub := 3 } } := by
      simp only [repeatTick, htick, Nat.reduceLT, Nat.reduceAdd]
    _ = s.dmaCopy := by simp [State.dmaTick, hactive, State.dmaCopy]; rfl

/-- Rule R513: what a transfer that started in `s` at index 0 has left after `k` bytes. -/
structure State.CopiedTo (s : State) (k : Nat) (t : State) : Prop where
  wf : Store.wf t.mem.oam = true
  copied : ∀ j, j < k → Store.read t.mem.oam j = s.dmaRead (s.dma.source + BitVec.ofNat 16 j)
  rest : ∀ j, k ≤ j → Store.read t.mem.oam j = Store.read s.mem.oam j
  frame : t = { s with
    mem := { s.mem with oam := t.mem.oam }
    dma := { s.dma with index := k, sub := 0, active := decide (k < 160) } }

/-- Rule R512: a DMA read looks at neither OAM nor the unit itself. -/
theorem State.CopiedTo.dmaRead {s t : State} {k : Nat} (h : s.CopiedTo k t) (a : Word) :
    t.dmaRead a = s.dmaRead a := by
  rw [h.frame]
  rfl

/-- Rules R512, R513: the next byte copied. -/
theorem State.CopiedTo.dmaCopy {s t : State} {k : Nat} (h : s.CopiedTo k t) (hk : k < 160) :
    s.CopiedTo (k + 1) t.dmaCopy := by
  have hindex : t.dma.index = k := by rw [h.frame]
  have hsource : t.dma.source = s.dma.source := by rw [h.frame]
  have hoam : t.dmaCopy.mem.oam =
      Store.write t.mem.oam k (s.dmaRead (s.dma.source + BitVec.ofNat 16 k)) := by
    rw [← hsource, ← hindex, ← h.dmaRead]; rfl
  have hread (j : Nat) := Store.read_write t.mem.oam h.wf k (s.dmaRead (s.dma.source + BitVec.ofNat 16 k)) j
  rw [← hoam] at hread
  refine ⟨hoam ▸ Store.wf_write _ h.wf _ _, fun j hj => ?_, fun j hj => ?_, ?_⟩
  · rw [hread]
    split
    · subst j; rfl
    · exact h.copied j (by omega)
  · rw [hread, if_neg (by omega)]
    exact h.rest j (by omega)
  · have hlast : (!(k + 1 == 160)) = decide (k + 1 < 160) := by
      rw [Bool.eq_iff_iff, Bool.not_eq_true', beq_eq_false_iff_ne, decide_eq_true_iff]
      omega
    have hdma : t.dmaCopy.dma = { s.dma with index := k + 1, sub := 0, active := decide (k + 1 < 160) } := by
      rw [← hlast, ← hindex, State.dmaCopy, h.frame]
    rw [← hdma, State.dmaCopy, h.frame]

/-- Settles O42, by induction on the machine cycles: each is `dmaCopy`. -/
theorem dmaCopiesPrefix : Obligations.DmaCopiesPrefix := by
  intro s k hwf hactive hindex hsub hk t
  suffices h : s.CopiedTo k t from ⟨h.copied, h.rest, h.frame⟩
  subst t
  induction k with
  | zero =>
    obtain ⟨-, -, -, hoam, -⟩ := (Memory.wf_iff s.mem).1 hwf
    refine ⟨hoam, fun j hj => absurd hj (Nat.not_lt_zero j), fun j _ => rfl, ?_⟩
    have hdma : s.dma = { s.dma with index := 0, sub := 0, active := true } := by
      cases hd : s.dma
      simp_all
    rw [repeatTick, decide_eq_true (by decide), ← hdma]
  | succ k ih =>
    have hprev := ih (by omega)
    have hnext := State.four_dmaTicks (s := repeatTick State.dmaTick (4 * k) s)
      (by rw [hprev.frame]; exact decide_eq_true (by omega)) (by rw [hprev.frame])
    rw [Nat.mul_succ, repeatTick_add, hnext]
    exact hprev.dmaCopy (by omega)

end Sys2Proof.Machine

namespace Sys2Proof.Machine

/-! ## The timer (61_timer.md R460-R469) -/

/-- Rules R52, R461: the four periods, with the divider bit each selects. -/
theorem timerPeriod_cases (tac : BitVec 3) :
    (timerSelect tac = 9 ∧ timerPeriod tac = 1024) ∨ (timerSelect tac = 3 ∧ timerPeriod tac = 16) ∨
      (timerSelect tac = 5 ∧ timerPeriod tac = 64) ∨ (timerSelect tac = 7 ∧ timerPeriod tac = 256) := by
  revert tac
  decide

theorem timerPeriod_pos : ∀ tac, 0 < timerPeriod tac := by decide

/-- Rules R52, R461: the detector's input is set in the second half of the period. -/
theorem Timer.input_eq (t : Timer) : t.input =
    (t.tac.getLsbD 2 && decide (timerPeriod t.tac ≤ 2 * (t.sysclk.toNat % timerPeriod t.tac))) := by
  have hbit : t.sysclk.getLsbD (timerSelect t.tac) =
      decide (timerPeriod t.tac ≤ 2 * (t.sysclk.toNat % timerPeriod t.tac)) := by
    rw [getLsbD_num, decide_eq_decide]
    rcases timerPeriod_cases t.tac with ⟨hbit, hperiod⟩ | ⟨hbit, hperiod⟩ | ⟨hbit, hperiod⟩ | ⟨hbit, hperiod⟩ <;>
      rw [hbit, hperiod] <;> omega
  rw [Timer.input, hbit]

theorem Timer.increment_eq (t : Timer) : t.increment =
    { t with tima := t.tima + 1, reload := if t.tima = 0xFF then 4 else t.reload } := by
  unfold Timer.increment
  split
  · rename_i h
    rw [h]
    rfl
  · rfl

/-- Rules R461-R463, R466, R468: the edge check, of a tick or of a write. -/
theorem Timer.settle_eq (enabled : Bool) (t : Timer) : t.settle enabled =
    if enabled && (t.inPrev && !t.input) then
      { t with tima := t.tima + 1, reload := if t.tima = 0xFF then 4 else t.reload, inPrev := t.input }
    else { t with inPrev := t.input } := by
  unfold Timer.settle Timer.edge
  cases enabled with
  | false => rfl
  | true => simp only [Timer.increment_eq, if_true, Bool.true_and]

/-! ### Ticks -/

/-- Rule R460: a reload that runs moves on by one; the last of its cycles requests the interrupt. -/
theorem Timer.window_eq (t : Timer) : t.window =
    ({ t with reload := t.reload - 1, tima := if t.reload = 1 then t.tma else t.tima },
      decide (t.reload = 1)) := by
  rcases t with ⟨sysclk, tima, tma, tac, reload, inPrev⟩
  match reload with
  | 0 => rfl
  | 1 => rfl
  | k + 2 => simp [Timer.window]

theorem Timer.window_of_idle {t : Timer} (h : t.reload = 0) : t.window = (t, false) := by
  rw [Timer.window, h]

/-- Rule R460: only the end of a reload requests the interrupt. -/
theorem Timer.tick_request (t : Timer) : t.tick.2 = decide (t.reload = 1) :=
  congrArg Prod.snd t.window_eq

/-- Rules R460, R461: the detector falls in the tick in which the divider wraps modulo the period. -/
theorem Timer.falls_iff {t : Timer} (h : t.inPrev = t.input) (hon : t.tac.getLsbD 2 = true) :
    (t.inPrev && !({ t with sysclk := t.sysclk + 1 } : Timer).input) = true ↔
      (t.sysclk.toNat + 1) % timerPeriod t.tac = 0 := by
  have hnext : (t.sysclk + 1).toNat = (t.sysclk.toNat + 1) % 65536 := BitVec.toNat_add _ _
  rw [h, Timer.input_eq, Timer.input_eq, hon, Bool.true_and, Bool.true_and, Bool.and_eq_true,
    Bool.not_eq_true', decide_eq_true_iff, decide_eq_false_iff_not, hnext]
  rcases timerPeriod_cases t.tac with ⟨-, hperiod⟩ | ⟨-, hperiod⟩ | ⟨-, hperiod⟩ | ⟨-, hperiod⟩ <;>
    rw [hperiod] <;> omega

/-- Rules R460-R462: a tick of a running timer: the reload's count, then the divider, then TIMA counted on
where the divider wraps modulo the period. -/
theorem Timer.tick_eq {t : Timer} (h : t.inPrev = t.input) (hon : t.tac.getLsbD 2 = true) :
    let w := t.window.1
    let wraps := (t.sysclk.toNat + 1) % timerPeriod t.tac = 0
    t.tick.1 = { t with
      sysclk := t.sysclk + 1
      tima := if wraps then w.tima + 1 else w.tima
      reload := if wraps ∧ w.tima = 0xFF then 4 else w.reload
      inPrev := ({ t with sysclk := t.sysclk + 1 } : Timer).input } := by
  have hfalls := Timer.falls_iff h hon
  have hedge : t.tick.1 = Timer.settle true { t.window.1 with sysclk := t.window.1.sysclk + 1 } := rfl
  rw [hedge, Timer.settle_eq, Bool.true_and, t.window_eq]
  have hinput : ({ t with
      sysclk := t.sysclk + 1
      tima := if t.reload = 1 then t.tma else t.tima
      reload := t.reload - 1 } : Timer).input = ({ t with sysclk := t.sysclk + 1 } : Timer).input := rfl
  dsimp only
  rw [hinput]
  by_cases hwraps : (t.sysclk.toNat + 1) % timerPeriod t.tac = 0
  · rw [if_pos (hfalls.2 hwraps)]
    simp only [hwraps, true_and, if_true]
  · rw [if_neg (mt hfalls.1 hwraps)]
    simp only [hwraps, false_and, if_false]

/-- Rules R460, R461: one tick moves the divider's count of periods on by one exactly where it wraps. -/
theorem wraps_count (tac : BitVec 3) (x : Word) (n : Nat) :
    (x.toNat % timerPeriod tac + (n + 1)) / timerPeriod tac =
      (if (x.toNat + 1) % timerPeriod tac = 0 then 1 else 0) +
        ((x + 1).toNat % timerPeriod tac + n) / timerPeriod tac := by
  have hnext : (x + 1).toNat = (x.toNat + 1) % 65536 := BitVec.toNat_add _ _
  rw [hnext]
  rcases timerPeriod_cases tac with ⟨-, hperiod⟩ | ⟨-, hperiod⟩ | ⟨-, hperiod⟩ | ⟨-, hperiod⟩ <;>
    rw [hperiod] <;> split <;> omega

/-- Settles O43, by induction on the ticks: none of them overflows. -/
theorem timerCounts : Obligations.TimerCounts := by
  intro t n hlegal hreload hon hfits
  dsimp only
  induction n generalizing t with
  | zero =>
    have hzero : (t.sysclk.toNat % timerPeriod t.tac + 0) / timerPeriod t.tac = 0 := by
      rw [Nat.add_zero]
      exact Nat.div_eq_of_lt (Nat.mod_lt _ (timerPeriod_pos t.tac))
    rw [hzero]
    refine ⟨rfl, ?_, rfl, rfl, hreload, ?_⟩
    · simp [repeatTick]
    · rw [repeatTick, Timer.tick_request, hreload]; rfl
  | succ n ih =>
    have hcount := wraps_count t.tac t.sysclk n
    generalize hrest : ((t.sysclk + 1).toNat % timerPeriod t.tac + n) / timerPeriod t.tac = rest at hcount
    have htick := Timer.tick_eq ((Timer.legal_iff t).1 hlegal).2 hon
    rw [Timer.window_of_idle hreload] at htick
    have hroom : (t.sysclk.toNat + 1) % timerPeriod t.tac = 0 → t.tima.toNat + 1 ≤ 255 := fun hwraps => by
      rw [hcount, if_pos hwraps] at hfits
      omega
    have htima : t.tick.1.tima.toNat =
        t.tima.toNat + if (t.sysclk.toNat + 1) % timerPeriod t.tac = 0 then 1 else 0 := by
      rw [htick]
      split
      · have hsum : (t.tima + 1).toNat = (t.tima.toNat + 1) % 256 := BitVec.toNat_add _ _
        have := hroom ‹_›
        exact hsum.trans (by omega)
      · rfl
    have hidle : t.tick.1.reload = 0 := by
      rw [htick]
      refine (if_neg ?_).trans hreload
      rintro ⟨hwraps, hfull⟩
      have := hroom hwraps
      rw [hfull] at this
      exact absurd this (by decide)
    have hsysclk : t.tick.1.sysclk = t.sysclk + 1 := by rw [htick]
    have htma : t.tick.1.tma = t.tma := by rw [htick]
    have htac : t.tick.1.tac = t.tac := by rw [htick]
    obtain ⟨h1, h2, h3, h4, h5, h6⟩ := ih t.tick.1 (t.legal_tick hlegal) hidle (htac ▸ hon)
      (by rw [htac, hsysclk, htima, hrest]; omega)
    rw [htac, hsysclk, htima, hrest] at h1
    refine ⟨h1.trans (by omega), h2.trans ?_, h3.trans htma, h4.trans htac, h5, h6⟩
    rw [hsysclk, BitVec.add_assoc, Nat.add_comm n 1, BitVec.ofNat_add]
    rfl

/-! ### The overflow window -/

/-- Rule R462: `n` ticks into the overflow window: TIMA reads 0 and the reload is `4 - n` ticks off. -/
structure Timer.Reloading (tma : Byte) (n : Nat) (u : Timer) : Prop where
  legal : u.legal = true
  on : u.tac.getLsbD 2 = true
  sysclk : u.sysclk.toNat % timerPeriod u.tac = n
  tima : u.tima = 0
  tma : u.tma = tma
  reload : u.reload = 4 - n

theorem Timer.Reloading.tick {tma : Byte} {n : Nat} {u : Timer} (h : u.Reloading tma n) (hn : n < 4) :
    u.tick.1.tima = (if n = 3 then tma else 0) ∧ u.tick.1.reload = 4 - (n + 1) ∧
      (n < 3 → u.tick.1.Reloading tma (n + 1)) := by
  have hnext : (u.sysclk + 1).toNat = (u.sysclk.toNat + 1) % 65536 := BitVec.toNat_add _ _
  have hsysclk := h.sysclk
  have hsteps : ¬ (u.sysclk.toNat + 1) % timerPeriod u.tac = 0 ∧
      (u.sysclk + 1).toNat % timerPeriod u.tac = n + 1 := by
    rw [hnext]
    rcases timerPeriod_cases u.tac with ⟨-, hperiod⟩ | ⟨-, hperiod⟩ | ⟨-, hperiod⟩ | ⟨-, hperiod⟩ <;>
      rw [hperiod] at hsysclk ⊢ <;> omega
  have htick := Timer.tick_eq ((Timer.legal_iff u).1 h.legal).2 h.on
  simp only [hsteps.1, if_false, false_and, u.window_eq] at htick
  have htima : u.tick.1.tima = if n = 3 then tma else 0 := by
    rw [htick, h.tima, h.reload, h.tma]
    exact if_congr (by omega) rfl rfl
  have hreload : u.tick.1.reload = 4 - (n + 1) := by
    rw [htick, h.reload]
    dsimp only
    omega
  refine ⟨htima, hreload, fun hlt => ⟨u.legal_tick h.legal, ?_, ?_, ?_, ?_, hreload⟩⟩
  · rw [htick]; exact h.on
  · rw [htick]; exact hsteps.2
  · rw [htima, if_neg (by omega)]
  · rw [htick]; exact h.tma

/-- Settles O44: the first tick opens the overflow window, the next four run it down. -/
theorem timerOverflow : Obligations.TimerOverflow := by
  intro t hlegal hreload hon hfull hwraps after
  have hafter (n : Nat) : after (n + 1) = (after n).tick.1 := repeatTick_succ _ n t
  have htick := Timer.tick_eq ((Timer.legal_iff t).1 hlegal).2 hon
  rw [Timer.window_of_idle hreload] at htick
  simp only [hwraps, if_true, true_and, hfull] at htick
  have hopened : (after 1).Reloading t.tma 0 := by
    have hnext : (t.sysclk + 1).toNat = (t.sysclk.toNat + 1) % 65536 := BitVec.toNat_add _ _
    have hnew : after 1 = t.tick.1 := rfl
    refine ⟨t.legal_tick hlegal, ?_, ?_, ?_, ?_, ?_⟩ <;> rw [hnew, htick]
    · exact hon
    · rw [hnext]
      rcases timerPeriod_cases t.tac with ⟨-, hperiod⟩ | ⟨-, hperiod⟩ | ⟨-, hperiod⟩ | ⟨-, hperiod⟩ <;>
        rw [hperiod] at hwraps ⊢ <;> omega
    · rfl
  have hopen (n : Nat) (hn : n < 4) : (after (n + 1)).Reloading t.tma n := by
    induction n with
    | zero => exact hopened
    | succ n ih =>
      rw [hafter]
      exact ((ih (by omega)).tick (by omega)).2.2 (by omega)
  obtain ⟨hlast, hdone, -⟩ := (hopen 3 (by decide)).tick (by decide)
  refine ⟨fun n hn => ⟨(hopen n hn).tima, ?_⟩, ?_, ?_, ?_⟩
  · rw [Timer.tick_request]
    cases n with
    | zero => exact decide_eq_false (by rw [show (after 0).reload = 0 from hreload]; decide)
    | succ n => exact decide_eq_false (by rw [(hopen n (by omega)).reload]; omega)
  · rw [Timer.tick_request, (hopen 3 (by decide)).reload]; rfl
  · rw [hafter]; exact hlast
  · rw [hafter]; exact hdone

/-! ### Register writes -/

/-- Settles O45: DIV and TAC settle the detector at its new input; TIMA and TMA are stored. -/
theorem timerWrites : Obligations.TimerWrites := by
  intro s v hlegal t counts
  obtain ⟨-, hprev⟩ := (Timer.legal_iff t).1 hlegal
  have hdiv := s.storeByte_div_timer v
  have htac : (s.storeByte 0xFF07 v).timer = t.writeTac s.enable.timer v := by
    rw [s.storeByte_io (s.target_reg 0xFF07 .tac)]; rfl
  have hsettle (x : Timer) (hinPrev : x.inPrev = t.inPrev) (htima : x.tima = t.tima)
      (hreload : x.reload = t.reload) : counts (t.inPrev && !x.input) (x.settle s.enable.timer) := by
    rw [Timer.settle_eq, hinPrev]
    show if (s.enable.timer && (t.inPrev && !x.input)) = true then _ else _
    split
    · exact ⟨congrArg (· + 1) htima, by rw [← htima, ← hreload]⟩
    · exact ⟨htima, hreload⟩
  have hkept (x : Timer) : (x.settle s.enable.timer).sysclk = x.sysclk ∧
      (x.settle s.enable.timer).tac = x.tac ∧ (x.settle s.enable.timer).tma = x.tma ∧
      (x.settle s.enable.timer).inPrev = x.input := by
    rw [Timer.settle_eq]
    split <;> exact ⟨rfl, rfl, rfl, rfl⟩
  refine ⟨?_, ?_, ?_, ?_⟩
  · intro u
    have hu : u = Timer.settle s.enable.timer { t with sysclk := 0 } := hdiv
    have hcounts := hsettle { t with sysclk := 0 } rfl rfl rfl
    have hzero : ({ t with sysclk := 0 } : Timer).input = false := by simp [Timer.input]
    obtain ⟨h1, h2, h3, h4⟩ := hkept { t with sysclk := 0 }
    have hfell : (t.inPrev && !({ t with sysclk := 0 } : Timer).input) = (t.tac.getLsbD 2 &&
        decide (timerPeriod t.tac ≤ 2 * (t.sysclk.toNat % timerPeriod t.tac))) := by
      rw [hzero, Bool.not_false, Bool.and_true, hprev, Timer.input_eq]
    rw [hfell] at hcounts
    rw [hu]
    exact ⟨h1, h2, h3, h4.trans hzero, hcounts⟩
  · rw [s.storeByte_io (s.target_reg 0xFF05 .tima)]; rfl
  · rw [s.storeByte_io (s.target_reg 0xFF06 .tma)]; rfl
  · intro u
    have hu : u = Timer.settle s.enable.timer { t with tac := v.extractLsb' 0 3 } := htac
    obtain ⟨h1, h2, h3, h4⟩ := hkept { t with tac := v.extractLsb' 0 3 }
    have hcounts := hsettle { t with tac := v.extractLsb' 0 3 } rfl rfl rfl
    have hon : (v.extractLsb' 0 3).getLsbD 2 = v.getLsbD 2 := by simp
    rw [← h4] at hcounts
    rw [hu]
    refine ⟨h2, h1, h3, ?_, hcounts⟩
    rw [h4, h2, Timer.input_eq, hon]

end Sys2Proof.Machine

namespace Sys2Proof.Machine

/-! ## The serial unit (62_serial_joypad.md R490-R495) -/

/-- Rule R492: the peer's answer to the top bit of SB, 1 with no peer. -/
def peerAnswer (peer : List PeerBit) (sb : Nat) : Bool :=
  match peer with
  | [] => true
  | p :: _ => if sb / 128 % 2 = 1 then p.ifHigh else p.ifLow

theorem shiftedIn_succ (k : Nat) (peer : List PeerBit) (sb : Nat) : shiftedIn (k + 1) peer sb =
    shiftedIn k peer.tail (sb * 2 % 256 + (peerAnswer peer sb).toNat) := by
  cases peer <;> rfl

/-- Rule R492: the first shifts of a run are done first, with the first of the peer's answers. -/
theorem shiftedIn_add (m n : Nat) (peer : List PeerBit) (sb : Nat) :
    shiftedIn (m + n) peer sb = shiftedIn n (peer.drop m) (shiftedIn m peer sb) := by
  induction m generalizing peer sb with
  | zero => rw [Nat.zero_add]; rfl
  | succ m ih => rw [Nat.succ_add, shiftedIn_succ, ih, shiftedIn_succ, List.drop_tail]

theorem shiftedIn_lt (k : Nat) (peer : List PeerBit) {sb : Nat} (h : sb < 256) :
    shiftedIn k peer sb < 256 := by
  induction k generalizing peer sb with
  | zero => exact h
  | succ k ih =>
    have ha := (peerAnswer peer sb).toNat_le
    rw [shiftedIn_succ]
    exact ih _ (by omega)

/-- Rule R492: a bit shifted in stands `k` places up after `k` more shifts. -/
theorem shifted_modEq (sb a r k : Nat) :
    (sb * 2 % 256 + a) * 2 ^ k + r ≡ sb * 2 ^ (k + 1) + (a * 2 ^ k + r) [MOD 256] := by
  refine ((((Nat.mod_modEq (sb * 2) 256).add_right a).mul_right (2 ^ k)).add_right r).trans ?_
  rw [show (sb * 2 + a) * 2 ^ k + r = sb * 2 ^ (k + 1) + (a * 2 ^ k + r) by ring]

/-- Rule R492: after `k` shifts SB is the old byte moved up by `k` with the answers below it. -/
theorem shiftedIn_modEq (k : Nat) (peer : List PeerBit) (sb : Nat) :
    ∃ r, r < 2 ^ k ∧ shiftedIn k peer sb ≡ sb * 2 ^ k + r [MOD 256] := by
  induction k generalizing peer sb with
  | zero => exact ⟨0, by norm_num, by simp [shiftedIn, Nat.ModEq]⟩
  | succ k ih =>
    obtain ⟨r, hr, hmod⟩ := ih peer.tail (sb * 2 % 256 + (peerAnswer peer sb).toNat)
    refine ⟨(peerAnswer peer sb).toNat * 2 ^ k + r, ?_, ?_⟩
    · have ha := Nat.mul_le_mul_right (2 ^ k) (peerAnswer peer sb).toNat_le
      rw [Nat.pow_succ]
      omega
    · rw [shiftedIn_succ]
      exact hmod.trans (shifted_modEq _ _ _ _)

/-- Rules D11, R492: with no peer ones are shifted in. -/
theorem shiftedIn_nil (k : Nat) (sb : Nat) :
    shiftedIn k [] sb ≡ sb * 2 ^ k + (2 ^ k - 1) [MOD 256] := by
  induction k generalizing sb with
  | zero => simp [shiftedIn, Nat.ModEq]
  | succ k ih =>
    have hones : 1 * 2 ^ k + (2 ^ k - 1) = 2 ^ (k + 1) - 1 := by
      have := Nat.two_pow_pos k
      rw [Nat.pow_succ]
      omega
    rw [shiftedIn_succ]
    exact (ih _).trans (hones ▸ shifted_modEq sb 1 (2 ^ k - 1) k)

/-- Rule R492: a shift, in numbers. -/
theorem Serial.shiftBit_eq {x : Serial} (hactive : x.active = true) (hbits : x.bits < 8) : x.shiftBit =
    ({ x with
      sb := BitVec.ofNat 8 (shiftedIn 1 x.peerBits x.sb.toNat)
      out := x.sb.getLsbD 7
      peerBits := x.peerBits.tail
      bits := (x.bits + 1) % 8
      active := decide (x.bits ≠ 7) }, decide (x.bits = 7)) := by
  have htop : x.sb.getLsbD 7 = decide (x.sb.toNat / 128 % 2 = 1) := getLsbD_num x.sb 7
  have hsb : x.sb <<< 1 ||| bitAt (x.incoming (x.sb.getLsbD 7)) 0 =
      BitVec.ofNat 8 (shiftedIn 1 x.peerBits x.sb.toNat) := by
    refine eq_ofNat ?_
    rw [toNat_shiftLeft_or_bit, htop, Serial.incoming]
    cases x.peerBits <;> simp [shiftedIn, Nat.mul_comm]
  unfold Serial.shiftBit
  dsimp only
  rw [hsb]
  by_cases h : x.bits = 7
  · simp [h]
  · have hnext : ¬ x.bits + 1 = 8 := by omega
    have hmod : (x.bits + 1) % 8 = x.bits + 1 := by omega
    simp [h, hnext, hmod, hactive]

/-- Rules R490-R492: the unit after `k` whole bit times of a transfer. -/
def Serial.afterBits (x : Serial) (k : Nat) : Serial :=
  { x with
    sb := BitVec.ofNat 8 (shiftedIn k x.peerBits x.sb.toNat)
    out := if k = 0 then x.out else x.sb.getLsbD (8 - k)
    peerBits := x.peerBits.drop k
    bits := k % 8
    active := decide (k < 8) }

theorem Serial.afterBits_zero {x : Serial} (hactive : x.active = true) (hbits : x.bits = 0) :
    x.afterBits 0 = x := by
  cases x
  simp_all [Serial.afterBits, shiftedIn]

/-- Rule R492: the bit shifted out next is the old byte's. -/
theorem Serial.afterBits_top (x : Serial) {k : Nat} (hk : k < 8) :
    (x.afterBits k).sb.getLsbD 7 = x.sb.getLsbD (7 - k) := by
  obtain ⟨r, hr, hmod⟩ := shiftedIn_modEq k x.peerBits x.sb.toNat
  have hsb : (x.afterBits k).sb.toNat = (x.sb.toNat * 2 ^ k + r) % 256 :=
    (BitVec.toNat_ofNat _ _).trans hmod
  rw [getLsbD_num, getLsbD_num, hsb, decide_eq_decide]
  interval_cases k <;> omega

theorem Serial.shiftBit_afterBits (x : Serial) {k : Nat} (hk : k < 8) :
    (x.afterBits k).shiftBit = (x.afterBits (k + 1), decide (k = 7)) := by
  have hmod : k % 8 = k := Nat.mod_eq_of_lt hk
  have hsb : shiftedIn 1 (x.afterBits k).peerBits (x.afterBits k).sb.toNat =
      shiftedIn (k + 1) x.peerBits x.sb.toNat := by
    rw [shiftedIn_add, Serial.afterBits, BitVec.toNat_ofNat,
      Nat.mod_eq_of_lt (shiftedIn_lt k _ x.sb.isLt)]
  rw [Serial.shiftBit_eq (decide_eq_true hk) (Nat.mod_lt k (by decide)), hsb, x.afterBits_top hk]
  have hlast : (k ≠ 7) ↔ k + 1 < 8 := by omega
  have hindex : 7 - k = 8 - (k + 1) := by omega
  simp only [Serial.afterBits, hmod, hlast, hindex, List.tail_drop, Nat.succ_ne_zero, if_false]

/-- Rule R492: a tick of the internal clock. -/
theorem Serial.tick_internal {x : Serial} (hactive : x.active = true) (hinternal : x.internal = true)
    (now n : Nat) : Serial.tick now { x with clock := n } =
      if n + 1 = 512 then Serial.shiftBit { x with clock := 0 } else ({ x with clock := n + 1 }, false) := by
  simp [Serial.tick, hactive, hinternal]

/-- Rule R492: within a bit time only the clock counts. -/
theorem Serial.within_bit {x : Serial} (hactive : x.active = true) (hinternal : x.internal = true)
    (hclock : x.clock = 0) (now : Nat) {n : Nat} (hn : n < 512) :
    repeatTick (fun y => (Serial.tick now y).1) n x = { x with clock := n } := by
  induction n with
  | zero => show x = { x with clock := 0 }; rw [← hclock]
  | succ n ih =>
    have hbit : ¬ n + 1 = 512 := by omega
    rw [repeatTick_succ, ih (by omega), Serial.tick_internal hactive hinternal, if_neg hbit]

theorem Serial.bit_time {x : Serial} (hactive : x.active = true) (hinternal : x.internal = true)
    (hclock : x.clock = 0) (now : Nat) :
    repeatTick (fun y => (Serial.tick now y).1) 512 x = x.shiftBit.1 := by
  have hx : { x with clock := 0 } = x := by rw [← hclock]
  rw [repeatTick_succ, Serial.within_bit hactive hinternal hclock now (by decide),
    Serial.tick_internal hactive hinternal, if_pos rfl, hx]

/-- Rules R490-R492: an internal-clock transfer, bit by bit. -/
theorem Serial.bit_times {x : Serial} (hactive : x.active = true) (hinternal : x.internal = true)
    (hbits : x.bits = 0) (hclock : x.clock = 0) (now : Nat) {k : Nat} (hk : k ≤ 8) :
    repeatTick (fun y => (Serial.tick now y).1) (512 * k) x = x.afterBits k := by
  induction k with
  | zero => exact (Serial.afterBits_zero hactive hbits).symm
  | succ k ih =>
    rw [Nat.mul_succ, repeatTick_add, ih (by omega),
      Serial.bit_time (x := x.afterBits k) (decide_eq_true (by omega)) hinternal hclock now,
      x.shiftBit_afterBits (by omega)]

/-- Settles O46: the internal clock by its bit times, the external one by a single shift. -/
theorem serialTransfer : Obligations.SerialTransfer := by
  refine ⟨fun x now k hactive hinternal hbits hclock hk => ?_, fun x now hactive hinternal hbits => ?_,
    fun x now hidle => by simp [Serial.tick, hidle]⟩
  · intro after
    have hafter {k : Nat} (hk : k ≤ 8) : after (512 * k) = x.afterBits k :=
      Serial.bit_times hactive hinternal hbits hclock now hk
    have hsb : (x.afterBits k).sb.toNat = shiftedIn k x.peerBits x.sb.toNat :=
      (BitVec.toNat_ofNat _ _).trans (Nat.mod_eq_of_lt (shiftedIn_lt k _ x.sb.isLt))
    rw [hafter hk]
    refine ⟨hsb, fun hnone => ?_, rfl, fun hpos => if_neg hpos.ne', rfl, hclock, rfl, fun n hn => ?_⟩
    · rw [hsb, hnone, ← Nat.mod_eq_of_lt (shiftedIn_lt k [] x.sb.isLt)]
      exact shiftedIn_nil k _
    · have hq : n / 512 < 8 := by omega
      have hactive : (x.afterBits (n / 512)).active = true := decide_eq_true hq
      have hn : after n = { x.afterBits (n / 512) with clock := n % 512 } := by
        rw [← Serial.within_bit (x := x.afterBits (n / 512)) hactive hinternal hclock now
          (Nat.mod_lt n (by decide)), ← hafter hq.le,
          ← repeatTick_add, Nat.div_add_mod]
      have hback : { x.afterBits (n / 512) with clock := 0 } = x.afterBits (n / 512) := by
        rw [← hclock]; rfl
      rw [hn, Serial.tick_internal (x := x.afterBits (n / 512)) hactive hinternal, hback, x.shiftBit_afterBits hq]
      split
      · exact decide_eq_decide.2 (by omega)
      · exact (decide_eq_false (by omega)).symm
  · have hshift := Serial.shiftBit_eq hactive hbits
    refine ⟨fun hedge => ?_, fun hedge => ?_⟩ <;> simp [Serial.tick, hactive, hinternal, hedge, hshift]

end Sys2Proof.Machine

namespace Sys2Proof.Machine

/-! ## The LCD off (64_ppu.md R541, R542, R544) -/

/-- Rule R544: with the PPU disabled a master cycle neither changes the PPU nor requests its interrupts. -/
theorem State.masterCycle_ppuDisabled {s : State} (h : s.enable.ppu = false) (frozen : Bool) :
    (s.masterCycle frozen).ppu = s.ppu ∧
      (s.masterCycle frozen).ints.iflag.getLsbD 0 = s.ints.iflag.getLsbD 0 ∧
      (s.masterCycle frozen).ints.iflag.getLsbD 1 = s.ints.iflag.getLsbD 1 := by
  cases frozen with
  | true => exact ⟨rfl, rfl, rfl⟩
  | false =>
    rw [s.masterCycle_running, h]
    dsimp only
    refine ⟨rfl, ?_, ?_⟩ <;>
    · repeat rw [Interrupts.requestIf_getLsbD _ _ (by decide)]
      simp

/-- Settles O49: LCDC writes by the old and the new bit 7, and the disabled PPU by induction on the cycles. -/
theorem ppuOff : Obligations.PpuOff := by
  refine ⟨fun s v => ?_, fun model draws vram oam p hoff => by simp [Ppu.tick, hoff],
    fun s frozen n hdisabled => ?_⟩
  · have hlcdc : (s.storeByte 0xFF40 v).ppu = s.ppu.writeLcdc v := by
      rw [s.storeByte_io (s.target_reg 0xFF40 .lcdc)]; rfl
    rw [hlcdc, Ppu.writeLcdc]
    simp only [Bool.and_eq_true, Bool.not_eq_true']
  · induction n generalizing s with
    | zero => exact ⟨rfl, rfl, rfl⟩
    | succ n ih =>
      obtain ⟨hppu, hvblank, hstat⟩ := State.masterCycle_ppuDisabled hdisabled frozen
      have henable := (s.masterCycle_ticked frozen).fixed.enable
      obtain ⟨h1, h2, h3⟩ := ih (s.masterCycle frozen) (henable ▸ hdisabled)
      exact ⟨h1.trans hppu, h2.trans hvblank, h3.trans hstat⟩

/-! ## Sprites (64_ppu.md R550-R552) -/

/-- The first `m` numbers below `n` with a property: those that fewer than `m` smaller ones share it with. -/
theorem mem_take_filter_range (q : Nat → Bool) (m n k : Nat) :
    k ∈ ((List.range n).filter q).take m ↔
      k < n ∧ q k = true ∧ ((List.range k).filter q).length < m := by
  induction n with
  | zero => simp
  | succ n ih =>
    have hlast (j : Nat) : k ∈ ([n].filter q).take j ↔ k = n ∧ q n = true ∧ 0 < j := by
      cases j with
      | zero => simp
      | succ j => cases hq : q n <;> simp [hq]
    rw [List.range_succ, List.filter_append, List.take_append, List.mem_append, ih, hlast]
    constructor
    · rintro (⟨hk, hrest⟩ | ⟨rfl, hq, hpos⟩)
      · exact ⟨by omega, hrest⟩
      · exact ⟨by omega, hq, by omega⟩
    · rintro ⟨hk, hq, hfew⟩
      obtain hk | rfl := Nat.lt_succ_iff_lt_or_eq.1 hk
      · exact .inl ⟨hk, hq, hfew⟩
      · exact .inr ⟨rfl, hq, by omega⟩

/-- Rule R550: the rows of a sprite, counted from 16 above the screen. -/
theorem Ppu.onLine_spriteAt (p : Ppu) (oam : Store) (y k : Nat) : p.onLine y (spriteAt oam k) =
    decide (((Store.read oam (4 * k)).toNat : Int) - 16 ≤ y ∧
      (y : Int) < (Store.read oam (4 * k)).toNat - 16 + if p.lcdc.getLsbD 2 then 16 else 8) := by
  rw [Bool.eq_iff_iff, Ppu.onLine, Bool.and_eq_true, decide_eq_true_iff, decide_eq_true_iff,
    decide_eq_true_iff, Ppu.spriteHeight, spriteAt]
  dsimp only
  split <;> omega

/-- Rule R550: the sprites a line selects. -/
theorem Ppu.mem_selectSprites (p : Ppu) (oam : Store) (y : Nat) (s : Sprite) :
    s ∈ p.selectSprites oam y ↔ p.lcdc.getLsbD 1 = true ∧ ∃ k, k < 40 ∧
      p.onLine y (spriteAt oam k) = true ∧
      ((List.range k).filter fun k => p.onLine y (spriteAt oam k)).length < 10 ∧ s = spriteAt oam k := by
  unfold Ppu.selectSprites
  split
  · rename_i hon
    rw [List.filter_map, ← List.map_take, List.mem_map]
    simp only [mem_take_filter_range, Function.comp_def, hon, true_and, and_assoc, eq_comm]
  · rename_i hoff
    exact iff_of_false List.not_mem_nil fun h => hoff h.1

/-- Rule R551: the tile of a sprite's row; with 16 rows the even tile and the odd one below it. -/
theorem Sprite.tile_toNat (tile : Byte) {row : Nat} (h : row < 16) :
    ((tile &&& 0xFE) + BitVec.ofNat 8 (row / 8)).toNat = tile.toNat / 2 * 2 + row / 8 := by
  have hhalf : row / 8 = 0 ∨ row / 8 = 1 := by omega
  revert tile
  rcases hhalf with h | h <;> rw [h] <;> decide +kernel

theorem Sprite.covers_iff (s : Sprite) (x : Nat) : s.covers x = true ↔ s.x ≤ x + 8 ∧ x < s.x := by
  simp [Sprite.covers]

/-- Rule R551: the colour index of the sprite's pixel in its row `r` and column `c`. -/
theorem Ppu.spriteIndex_eq (p : Ppu) (vram : Store) (s : Sprite) {x y r c : Nat}
    (hr : r < if p.lcdc.getLsbD 2 then 16 else 8) (hy : y + 16 = s.y + r) (hx : x + 8 = s.x + c) :
    let height := if p.lcdc.getLsbD 2 then 16 else 8
    let row := if s.attr.getLsbD 6 then height - 1 - r else r
    let column := if s.attr.getLsbD 5 then 7 - c else c
    let tile := if p.lcdc.getLsbD 2 then s.tile.toNat / 2 * 2 + row / 8 else s.tile.toNat
    p.spriteIndex vram s x y = indexOfPlanes vram (16 * tile) (row % 8) column := by
  intro height row column tile
  have hrow : y + 16 - s.y = r := by omega
  have hcolumn : x + 8 - s.x = c := by omega
  have hlt : row < height := by
    show (if s.attr.getLsbD 6 then height - 1 - r else r) < height
    split <;> omega
  have htile : (if p.spriteHeight = 16 then (s.tile &&& 0xFE) + BitVec.ofNat 8 (row / 8)
      else s.tile).toNat = tile := by
    show _ = if p.lcdc.getLsbD 2 then s.tile.toNat / 2 * 2 + row / 8 else s.tile.toNat
    cases h : p.lcdc.getLsbD 2 with
    | false => simp only [Ppu.spriteHeight, h, Bool.false_eq_true, if_false, Nat.reduceEqDiff]
    | true =>
      have hlt : row < 16 := lt_of_lt_of_eq hlt (if_pos h)
      simp only [Ppu.spriteHeight, h, if_true, Sprite.tile_toNat s.tile hlt]
  rw [← htile, ← tilePixel_indexOfPlanes]
  unfold Ppu.spriteIndex
  rw [hrow, hcolumn]
  rfl

/-- Rule R552: of the sprites in OAM order the fold keeps the first with the smallest X. -/
theorem Sprite.foldl_first {a : Sprite} {objs : List Sprite}
    (h : (a :: objs).Pairwise fun a b => a.index < b.index) :
    ∃ b ∈ a :: objs, objs.foldl Sprite.first (some a) = some b ∧
      ∀ s ∈ a :: objs, b.x < s.x ∨ (b.x = s.x ∧ b.index ≤ s.index) := by
  induction objs generalizing a with
  | nil => exact ⟨a, List.mem_singleton_self a, rfl, by simp⟩
  | cons s objs ih =>
    obtain ⟨ha, hs⟩ := List.pairwise_cons.1 h
    rw [List.foldl_cons, Sprite.first]
    by_cases hx : s.x < a.x
    · obtain ⟨b, hb, hfold, hmin⟩ := ih hs
      refine ⟨b, List.mem_cons_of_mem a hb, by rw [if_pos hx]; exact hfold, fun t ht => ?_⟩
      obtain rfl | ht := List.mem_cons.1 ht
      · obtain hbs | ⟨hbs, -⟩ := hmin s (List.mem_cons_self ..) <;> exact .inl (by omega)
      · exact hmin t ht
    · have hskip : (a :: objs).Pairwise fun a b => a.index < b.index :=
        List.pairwise_cons.2 ⟨fun t ht => ha t (List.mem_cons_of_mem s ht), (List.pairwise_cons.1 hs).2⟩
      obtain ⟨b, hb, hfold, hmin⟩ := ih hskip
      have hindex := ha s (List.mem_cons_self ..)
      refine ⟨b, ?_, by rw [if_neg hx]; exact hfold, fun t ht => ?_⟩
      · exact List.cons_subset_cons a (List.subset_cons_self s objs) hb
      · have hba := hmin a (List.mem_cons_self ..)
        obtain rfl | ht := List.mem_cons.1 ht
        · exact hba
        · obtain rfl | ht := List.mem_cons.1 ht
          · omega
          · exact hmin t (List.mem_cons_of_mem a ht)

/-- Settles O50: the selection by the first ten numbers, a pixel by its tile, and the sprite drawn by the
fold over the sprites that show. -/
theorem spritePriority : Obligations.SpritePriority := by
  refine ⟨fun p oam y => ⟨p.selectSprites_pairwise oam y, fun s => ?_⟩,
    fun p vram s x y r c hr hc hy hx => ⟨(s.covers_iff x).2 (by omega),
      p.spriteIndex_eq vram s hr hy hx⟩, Sprite.covers_iff, fun p vram objs x y hsorted => ?_⟩
  · simp only [p.mem_selectSprites, Ppu.onLine_spriteAt]
    rfl
  · intro shows
    have hshows (s : Sprite) : (s.covers x && p.spriteIndex vram s x y != 0) = true ↔ shows s := by
      rw [Bool.and_eq_true, bne_iff_ne]
    have hmem (s : Sprite) : s ∈ objs.filter (fun s => s.covers x && p.spriteIndex vram s x y != 0) ↔
        s ∈ objs ∧ shows s := by rw [List.mem_filter, hshows]
    have hfiltered := hsorted.filter fun s => s.covers x && p.spriteIndex vram s x y != 0
    unfold Ppu.spritePixel
    cases hobjs : objs.filter (fun s => s.covers x && p.spriteIndex vram s x y != 0) with
    | nil =>
      intro s hs hshow
      have := (hmem s).2 ⟨hs, hshow⟩
      rw [hobjs] at this
      exact List.not_mem_nil this
    | cons a rest =>
      rw [hobjs] at hfiltered hmem
      obtain ⟨b, hb, hfold, hmin⟩ := Sprite.foldl_first hfiltered
      obtain ⟨hbobjs, hbshows⟩ := (hmem b).1 hb
      have hdrawn : (a :: rest).foldl Sprite.first none = some b := hfold
      rw [hdrawn]
      exact ⟨hbobjs, hbshows, fun s hs hshow => hmin s ((hmem s).2 ⟨hs, hshow⟩)⟩

end Sys2Proof.Machine

namespace Sys2Proof.Machine

/-! ## A tick of a running PPU (64_ppu.md R530-R557) -/

/-- Rule R530: the dots of a frame up to the PPU's place in it. -/
def Ppu.place (p : Ppu) : Nat := p.ly * 456 + p.dot

/-- Rule R533: the next dot's place; a frame is 70224 dots. -/
def Ppu.nextPlace (p : Ppu) : Nat := (p.place + 1) % 70224

/-- Rule R533: the counters move on by one dot of the frame, and the window's are cleared where it ends. -/
theorem Ppu.advance_eq {p : Ppu} (hly : p.ly < 154) (hdot : p.dot < 456) : p.advance =
    { p with
      ly := p.nextPlace / 456
      dot := p.nextPlace % 456
      windowLine := if p.nextPlace = 0 then 0 else p.windowLine
      windowYHit := p.windowYHit && decide (p.nextPlace ≠ 0) } := by
  have hnext : p.nextPlace = (p.ly * 456 + p.dot + 1) % 70224 := rfl
  unfold Ppu.advance
  by_cases hline : p.dot + 1 = 456
  · rw [if_pos hline]
    by_cases hframe : p.ly + 1 = 154
    · have hnext : p.nextPlace = 0 := by omega
      simp [hframe, hnext]
    · have hnext : p.nextPlace = (p.ly + 1) * 456 := by omega
      have hpos : (p.ly + 1) * 456 ≠ 0 := by omega
      simp only [if_neg hframe, hnext, hpos, if_false, Nat.mul_div_cancel, Nat.mul_mod_left, decide_true,
        ne_eq, not_false_eq_true, Bool.and_true, Nat.ofNat_pos]
  · rw [if_neg hline]
    have hpos : p.nextPlace ≠ 0 := by omega
    have hly : p.nextPlace / 456 = p.ly := by omega
    have hdot : p.nextPlace % 456 = p.dot + 1 := by omega
    rw [hly, hdot, if_neg hpos, decide_eq_true hpos, Bool.and_true]

/-- Rule R531: which mode a line and a dot are in. -/
theorem modeOf_eq_iff (ly dot len : Nat) :
    (modeOf ly dot len = .vblank ↔ 144 ≤ ly) ∧ (modeOf ly dot len = .oamScan ↔ ly < 144 ∧ dot < 80) ∧
      (modeOf ly dot len = .transfer ↔ ly < 144 ∧ 80 ≤ dot ∧ dot < 80 + len) ∧
      (modeOf ly dot len = .hblank ↔ ly < 144 ∧ 80 + len ≤ dot) := by
  unfold modeOf
  split_ifs <;> simp <;> omega

/-- Rules R545, R553, R554, R557: a line composed, in the words of Safety.lean. -/
theorem Ppu.renderLine_composedRow (model : ConsoleMode) (draws : Nat) (vram oam : Store) (p : Ppu) :
    let line : Ppu := { p with windowYHit := p.windowYHit || decide (p.ly = p.wy.toNat) }
    p.renderLine model draws vram oam = { line with
      framebuffer := p.framebuffer.set p.ly (composedRow model draws vram oam line p.ly)
      windowLine := p.windowLine + (if p.lcdc.getLsbD 0 = true ∧ p.lcdc.getLsbD 5 = true ∧
        line.windowYHit = true ∧ p.wx.toNat ≤ 166 then 1 else 0) } := by
  intro line
  have hmatch : p.windowMatch = line := by
    unfold Ppu.windowMatch
    by_cases h : p.ly = p.wy.toNat <;> simp [line, h]
  have hcount (q : Ppu) : q.windowCount = { q with windowLine := q.windowLine +
      (if q.lcdc.getLsbD 0 = true ∧ q.lcdc.getLsbD 5 = true ∧ q.windowYHit = true ∧ q.wx.toNat ≤ 166
        then 1 else 0) } := by
    unfold Ppu.windowCount
    rw [if_congr q.any_windowCovers rfl rfl]
    split <;> simp
  have hcomposed : p.renderLine model draws vram oam = Ppu.windowCount { p.windowMatch with
      framebuffer := p.windowMatch.framebuffer.set p.windowMatch.ly
        (composedRow model draws vram oam p.windowMatch p.windowMatch.ly) } :=
    congrArg (fun row => Ppu.windowCount { p.windowMatch with
        framebuffer := p.windowMatch.framebuffer.set p.windowMatch.ly row })
      (p.windowMatch.composeRow_composedRow model draws vram oam p.windowMatch.ly)
  rw [hcomposed, hmatch, hcount]

/-- Rule R532: the penalty the table gives. -/
theorem Ppu.penalty_eq (p : Ppu) (oam : Store) : p.penalty oam =
    match p.penalties.find? (fun e => e.1 == ⟨p.ly, p.scx, p.wx, p.wy, p.lcdc, oam⟩) with
    | none => 0
    | some e => min e.2 203 := by
  unfold Ppu.penalty Ppu.penaltyKey
  cases p.penalties.find? _ <;> rfl

/-- Rule R533: the PPU once its counters have moved on and mode 3's length is latched. -/
def Ppu.moved (oam : Store) (p : Ppu) : Ppu := p.advance.latchLength oam

/-- Rules R532, R533: what the counters' move leaves, field by field. -/
theorem Ppu.moved_eq {p : Ppu} (hly : p.ly < 154) (hdot : p.dot < 456) (oam : Store) : p.moved oam =
    { p with
      ly := p.nextPlace / 456
      dot := p.nextPlace % 456
      windowLine := if p.nextPlace = 0 then 0 else p.windowLine
      windowYHit := p.windowYHit && decide (p.nextPlace ≠ 0)
      mode3Len := if p.nextPlace / 456 < 144 ∧ p.nextPlace % 456 = 80 then
        172 + Ppu.penalty { p with ly := p.nextPlace / 456 } oam else p.mode3Len } := by
  unfold Ppu.moved Ppu.latchLength
  rw [p.advance_eq hly hdot]
  by_cases h : p.nextPlace / 456 < 144 ∧ p.nextPlace % 456 = 80
  · rw [if_pos h, if_pos h]; rfl
  · rw [if_neg h, if_neg h]

/-- Rules R533, R536, R538, R539: how a tick ends, whether it enters VBlank or not. -/
theorem Ppu.settle_entersVBlank (next : PpuMode) (q : Ppu) :
    let ended := Ppu.settle next (if q.entersVBlank next then { q with frameComplete := true } else q)
    ended = { q with
      mode := next
      lycMatch := decide (q.ly = q.lyc.toNat)
      statLine := ended.statLine
      frameComplete := q.frameComplete || q.entersVBlank next } ∧ ended.statLine = ended.statCond := by
  refine ⟨?_, rfl⟩
  cases q.entersVBlank next
  · rw [Bool.or_false]; rfl
  · rw [Bool.or_true]; rfl

/-- Rules R533, R536-R539: what a tick leaves beside the picture, for the line composed or not. -/
theorem Ppu.run_eq (model : ConsoleMode) (draws : Nat) (vram oam : Store) {p : Ppu} (hly : p.ly < 154)
    (hdot : p.dot < 456) :
    let m := p.moved oam
    let next := modeOf m.ly m.dot m.mode3Len
    let drawn := if p.mode = .transfer ∧ next = .hblank then m.renderLine model draws vram oam else m
    let r := p.run model draws vram oam
    r.ppu = { drawn with
      mode := next
      lycMatch := decide (m.ly = p.lyc.toNat)
      statLine := r.ppu.statLine
      frameComplete := p.frameComplete || r.vblank } ∧
    r.ppu.statLine = r.ppu.statCond ∧ r.vblank = decide (next = .vblank ∧ p.mode ≠ .vblank) ∧
    r.stat = (r.ppu.statLine && !p.statLine) ∧
    r.drawn = if model = .cgb ∧ p.mode = .transfer ∧ next = .hblank then 480 else 0 := by
  intro m next drawn r
  have hm := p.moved_eq hly hdot oam
  have hmode : m.mode = p.mode := by show (p.moved oam).mode = _; rw [hm]
  have hcomposes : m.composes next = decide (p.mode = .transfer ∧ next = .hblank) := by
    rw [Ppu.composes, hmode, Bool.eq_iff_iff, Bool.and_eq_true, beq_iff_eq, beq_iff_eq, decide_eq_true_iff]
  have hdrawn : drawn = if m.composes next then m.renderLine model draws vram oam else m :=
    if_congr (by rw [hcomposes, decide_eq_true_iff]) rfl rfl
  obtain ⟨hkeptMode, hkeptStat, hkeptLy, hkeptLyc, hkeptFrame⟩ : drawn.mode = p.mode ∧
      drawn.statLine = p.statLine ∧ drawn.ly = m.ly ∧ drawn.lyc = p.lyc ∧
      drawn.frameComplete = p.frameComplete := by
    have hmoved : m.mode = p.mode ∧ m.statLine = p.statLine ∧ m.ly = m.ly ∧ m.lyc = p.lyc ∧
        m.frameComplete = p.frameComplete := by simp [m, hm]
    obtain ⟨row, wl, hit, -, hrow⟩ := m.renderLine_eq model draws vram oam
    rw [hdrawn]
    split
    · rw [hrow]; exact hmoved
    · exact hmoved
  obtain ⟨hended, hcond⟩ := drawn.settle_entersVBlank next
  have hrun : r.ppu = Ppu.settle next
        (if drawn.entersVBlank next then { drawn with frameComplete := true } else drawn) ∧
      r.vblank = drawn.entersVBlank next ∧ r.stat = (r.ppu.statLine &&
        !(if drawn.entersVBlank next then { drawn with frameComplete := true } else drawn).statLine) := by
    rw [hdrawn]; exact ⟨rfl, rfl, rfl⟩
  obtain ⟨hppu, hvblank, hstat⟩ := hrun
  rw [← hppu] at hended hcond
  refine ⟨?_, hcond, ?_, ?_, ?_⟩
  · rw [hvblank, ← hkeptFrame, ← hkeptLy, ← hkeptLyc]; exact hended
  · rw [hvblank, Ppu.entersVBlank, hkeptMode, Bool.eq_iff_iff, Bool.and_eq_true, beq_iff_eq, bne_iff_ne,
      decide_eq_true_iff]
  · rw [hstat, ← hkeptStat]; split <;> rfl
  · have hused : r.drawn = if model = .cgb ∧ m.composes next = true then 480 else 0 := by
      cases model
      case cgb => exact if_congr (and_iff_right rfl).symm rfl rfl
      case dmg => rfl
      case sgb => rfl
    rw [hused, hcomposes]
    exact if_congr (by rw [decide_eq_true_iff]) rfl rfl

/-- Rule R545: the row composed is of the PPU's registers, its palette and its window, whatever its place. -/
theorem composedRow_congr (model : ConsoleMode) (draws : Nat) (vram oam : Store) (p : Ppu) (y ly dot len : Nat)
    (frame : List (List Rgb)) :
    composedRow model draws vram oam
      { p with ly := ly, dot := dot, mode3Len := len, framebuffer := frame } y =
      composedRow model draws vram oam p y := by
  cases model <;> rfl

/-- Rules R545, R553, R554, R557: the line composed where the counters moved on within a frame. -/
theorem Ppu.renderLine_moved (model : ConsoleMode) (draws : Nat) (vram oam : Store) {p : Ppu}
    (hly : p.ly < 154) (hdot : p.dot < 456) (hpos : p.nextPlace ≠ 0) :
    let y := p.nextPlace / 456
    let line : Ppu := { p with windowYHit := p.windowYHit || decide (y = p.wy.toNat) }
    (p.moved oam).renderLine model draws vram oam = { p.moved oam with
      framebuffer := p.framebuffer.set y (composedRow model draws vram oam line y)
      windowYHit := line.windowYHit
      windowLine := p.windowLine + (if p.lcdc.getLsbD 0 = true ∧ p.lcdc.getLsbD 5 = true ∧
        line.windowYHit = true ∧ p.wx.toNat ≤ 166 then 1 else 0) } := by
  intro y line
  rw [Ppu.renderLine_composedRow, p.moved_eq hly hdot, if_neg hpos, decide_eq_true hpos, Bool.and_true,
    ← composedRow_congr model draws vram oam line y y (p.nextPlace % 456)
      (if p.nextPlace / 456 < 144 ∧ p.nextPlace % 456 = 80 then
        172 + Ppu.penalty { p with ly := p.nextPlace / 456 } oam else p.mode3Len) p.framebuffer]

/-- Rules R532, R533: the place a tick leads to, with what it keeps of the registers. -/
theorem Ppu.run_place (model : ConsoleMode) (draws : Nat) (vram oam : Store) {p : Ppu} (hly : p.ly < 154)
    (hdot : p.dot < 456) :
    let q := (p.run model draws vram oam).ppu
    q.ly = p.nextPlace / 456 ∧ q.dot = p.nextPlace % 456 ∧
    q.mode3Len = (if p.nextPlace / 456 < 144 ∧ p.nextPlace % 456 = 80 then
      172 + Ppu.penalty { p with ly := p.nextPlace / 456 } oam else p.mode3Len) ∧
    q.mode = modeOf q.ly q.dot q.mode3Len ∧ q.statSelect = p.statSelect ∧
    q.lycMatch = decide (q.ly = p.lyc.toNat) := by
  intro q
  obtain ⟨hq, -⟩ := p.run_eq model draws vram oam hly hdot
  have hm := p.moved_eq hly hdot oam
  obtain ⟨frame, wl, hit, hdrawn⟩ : ∃ frame wl hit, (if p.mode = .transfer ∧
      modeOf (p.moved oam).ly (p.moved oam).dot (p.moved oam).mode3Len = .hblank then
        (p.moved oam).renderLine model draws vram oam else p.moved oam) =
      { p.moved oam with framebuffer := frame, windowLine := wl, windowYHit := hit } := by
    split
    · obtain ⟨row, wl, hit, -, hrow⟩ := (p.moved oam).renderLine_eq model draws vram oam
      exact ⟨_, wl, hit, hrow⟩
    · exact ⟨_, _, _, rfl⟩
  rw [hdrawn, hm] at hq
  generalize (p.run model draws vram oam).ppu.statLine = line at hq
  simp [q, hq]

/-- Settles O48: the counters move on by one dot (`Ppu.run_place`), the mode follows from the place
(`modeOf_eq_iff`), and the line composed on the change to HBlank is `composedRow`. -/
theorem ppuFrame : Obligations.PpuFrame := by
  intro model draws vram oam p hlegal hon r q
  obtain ⟨hly, hdot, -, -, -, hmode, -, hframe, -⟩ := p.legal_iff.1 hlegal
  have hrun : r = p.run model draws vram oam := if_pos hon
  obtain ⟨hppu, hcond, hvblank, hstat, hdrawn⟩ := p.run_eq model draws vram oam hly hdot
  obtain ⟨hqly, hqdot, hqlen, hqmode, hselect, hmatch⟩ := p.run_place model draws vram oam hly hdot
  rw [← hrun] at hppu hcond hvblank hstat hdrawn hqly hqdot hqlen hqmode hselect hmatch
  change q = _ at hppu
  change q.statLine = q.statCond at hcond
  change q.ly = _ at hqly
  change q.dot = _ at hqdot
  change q.mode3Len = _ at hqlen
  change q.lycMatch = decide (q.ly = _) at hmatch
  change q.mode = modeOf q.ly q.dot q.mode3Len at hqmode
  have hnextMode : modeOf (p.moved oam).ly (p.moved oam).dot (p.moved oam).mode3Len = q.mode := by rw [hppu]
  rw [hnextMode] at hppu hvblank hdrawn
  have hnext : p.nextPlace = (p.ly * 456 + p.dot + 1) % 70224 := rfl
  have hplace : q.ly * 456 + q.dot = p.nextPlace := by omega
  obtain ⟨hvblankIff, hscanIff, htransferIff, hhblankIff⟩ := modeOf_eq_iff q.ly q.dot q.mode3Len
  rw [← hqmode] at hvblankIff hscanIff htransferIff hhblankIff
  refine ⟨hplace, by omega, ?_, ?_, hmatch, ?_, hvblankIff, hscanIff, htransferIff, hhblankIff, ?_, ?_, ?_⟩
  · have hwas : p.mode = .vblank ↔ 144 ≤ p.ly := by rw [hmode hon]; exact (modeOf_eq_iff _ _ _).1
    rw [hvblank, decide_eq_true_iff, hvblankIff, ne_eq, hwas]
    omega
  · rw [hppu]
  · rw [hqlen, hqly, hqdot]
    exact if_congr Iff.rfl (congrArg (172 + ·) (Ppu.penalty_eq _ oam)) rfl
  · rw [hcond, Ppu.statCond, hselect, hmatch]
    simp only [Bool.or_eq_true, Bool.and_eq_true, decide_eq_true_iff, beq_iff_eq, or_assoc]
  · rw [hstat, Bool.and_eq_true, Bool.not_eq_true', and_comm]
  · rw [hdrawn]
    split
    · rename_i hcomposed
      have hpos : p.nextPlace ≠ 0 := by have := hhblankIff.1 hcomposed.2; omega
      have hrow : q.ly < p.framebuffer.length := by rw [hframe]; exact (hhblankIff.1 hcomposed.2).1
      rw [if_pos hcomposed, p.renderLine_moved model draws vram oam hly hdot hpos, ← hqly] at hppu
      have hpicture := congrArg Ppu.framebuffer hppu
      have hflag := congrArg Ppu.windowYHit hppu
      have hcount := congrArg Ppu.windowLine hppu
      refine ⟨?_, fun k hk => ?_, hflag, hcount, ?_⟩
      · rw [hpicture]; exact List.getElem?_set_self hrow
      · rw [hpicture]; exact List.getElem?_set_ne (Ne.symm hk)
      · exact if_congr (and_iff_left hcomposed) rfl rfl
    · rename_i hcomposed
      rw [if_neg hcomposed, p.moved_eq hly hdot] at hppu
      exact ⟨by rw [hppu], if_neg fun h => hcomposed h.2, by rw [hplace, hppu], by rw [hplace, hppu]⟩

end Sys2Proof.Machine

namespace Sys2Proof.Machine

/-! ## The APU's units in the words of Safety.lean (65_apu.md R600-R660) -/

theorem Sweep.pace_eq (w : Sweep) : w.pace = w.nr10.toNat / 16 := by
  have := w.nr10.isLt
  rw [Sweep.pace, BitVec.extractLsb'_toNat, Nat.shiftRight_eq_div_pow]
  omega

theorem Sweep.shift_eq (w : Sweep) : w.shift = w.nr10.toNat % 8 := by
  rw [Sweep.shift, BitVec.extractLsb'_toNat, Nat.shiftRight_zero]

theorem Sweep.down_eq (w : Sweep) : w.nr10.getLsbD 3 = decide (w.nr10.toNat / 8 % 2 = 1) :=
  getLsbD_num w.nr10 3

/-- Rule R613: where a sweep calculation takes a period, in numbers. -/
theorem Sweep.next_eq (w : Sweep) (x : Nat) (hx : x ≤ 2047) :
    (if decide (w.nr10.toNat / 8 % 2 = 1) = true then x - x / 2 ^ (w.nr10.toNat % 8)
      else x + x / 2 ^ (w.nr10.toNat % 8)) = Sweep.next { w with shadow := BitVec.ofNat 11 x } := by
  have hshadow : (BitVec.ofNat 11 x).toNat = x := by rw [BitVec.toNat_ofNat]; omega
  rw [Sweep.next, Sweep.shift_eq, Sweep.down_eq, hshadow]

/-- Rule R614: a sweep clock of Safety.lean in the model's words. -/
theorem sweepAfter_clocked (w : Sweep) (period : BitVec 11) (on : Bool) : sweepAfter true w period on =
    let reloaded : Sweep := { w with timer := w.reload }
    let moved : Sweep := { w.note with timer := w.reload, shadow := BitVec.ofNat 11 w.next }
    if 1 < w.timer then ({ w with timer := w.timer - 1 }, period, on)
    else if w.enabled = false ∨ w.pace = 0 then (reloaded, period, on)
    else if w.next ≤ 2047 ∧ w.shift ≠ 0 then
      (moved, moved.shadow, on && decide (moved.next ≤ 2047))
    else (reloaded.note, period, on && decide (w.next ≤ 2047)) := by
  have hshadow : w.shadow.toNat ≤ 2047 := Nat.le_of_lt_succ w.shadow.isLt
  have hself : Sweep.next { w with shadow := BitVec.ofNat 11 w.shadow.toNat } = w.next := by
    rw [BitVec.ofNat_toNat, BitVec.setWidth_eq]
  unfold sweepAfter
  simp only [w.next_eq _ hshadow, hself, Bool.true_eq_false, if_false]
  rw [w.shift_eq, Sweep.reload, w.pace_eq]
  split
  · rfl
  · split
    · rfl
    · split
      · rename_i hnext
        rw [w.next_eq _ hnext.1, ← w.down_eq]
        rfl
      · rw [← w.down_eq]
        rfl

/-- Rule R614: the sweep clock in numbers. -/
theorem sweepClock_eq (w : Sweep) (c : Pulse) : sweepClock w c =
    ((sweepAfter true w c.period c.on).1,
      { c with
        period := (sweepAfter true w c.period c.on).2.1
        on := (sweepAfter true w c.period c.on).2.2 }) := by
  rw [sweepAfter_clocked]
  unfold sweepClock
  by_cases htimer : w.timer ≤ 1
  · rw [if_pos htimer, if_neg (Nat.not_lt.2 htimer)]
    by_cases hstill : w.enabled = false ∨ w.pace = 0
    · have hoff : ¬ (w.enabled && w.pace != 0) = true := by
        rcases hstill with h | h <;> simp [h]
      rw [if_pos hstill]
      exact if_neg hoff
    · have hruns : (w.enabled && w.pace != 0) = true := by simpa using hstill
      rw [if_neg hstill]
      refine (if_pos hruns).trans ?_
      unfold sweepIterate
      by_cases hmove : w.next ≤ 2047 ∧ w.shift ≠ 0
      · rw [if_pos hmove]
        refine (if_pos hmove).trans ?_
        have hon : (c.on && decide (w.next ≤ 2047)) = c.on := by rw [decide_eq_true hmove.1, Bool.and_true]
        have hnoted : (w.negated || w.nr10.getLsbD 3 || w.nr10.getLsbD 3) = (w.negated || w.nr10.getLsbD 3) := by
          rw [Bool.or_assoc, Bool.or_self]
        show (({ w with
            timer := w.reload, shadow := BitVec.ofNat 11 w.next
            negated := w.negated || w.nr10.getLsbD 3 || w.nr10.getLsbD 3 } : Sweep),
          ({ c with
            period := BitVec.ofNat 11 w.next
            on := c.on && decide (w.next ≤ 2047) && decide (Sweep.next { w.note with
              timer := w.reload, shadow := BitVec.ofNat 11 w.next } ≤ 2047) } : Pulse)) = _
        rw [hon, hnoted]
        rfl
      · rw [if_neg hmove]
        exact if_neg hmove
  · rw [if_neg htimer, if_pos (Nat.not_le.1 htimer)]

/-- Rule R650: bit 6 of a shifted register replaced by its feedback bit. -/
theorem narrow_feedback (h b : Nat) : ((b * 128 + h / 128) * 2 + b) * 64 + h % 64 =
    h + 16384 * b - 64 * ((h + 16384 * b) / 64 % 2) + 64 * b := by
  omega

/-- Rule R650: a shift register's step in numbers. -/
theorem toNat_lfsrStep (narrow : Bool) (l : BitVec 15) :
    let b := (l.toNat + l.toNat / 2) % 2
    let moved := l.toNat / 2 + 16384 * b
    (lfsrStep narrow l).toNat = if narrow then moved - 64 * (moved / 64 % 2) + 64 * b else moved := by
  intro b moved
  have hl := l.isLt
  have hb : (BitVec.ofBool (l.getLsbD 0 ^^ l.getLsbD 1)).toNat = b := by
    rw [getLsbD_num, getLsbD_num]
    rcases Nat.mod_two_eq_zero_or_one l.toNat with h0 | h0 <;>
      rcases Nat.mod_two_eq_zero_or_one (l.toNat / 2) with h1 | h1 <;>
        simp [b, h0, h1, Nat.add_mod]
  cases narrow
  · show (BitVec.ofBool (l.getLsbD 0 ^^ l.getLsbD 1) ++ l.extractLsb' 1 14).toNat = moved
    rw [toNat_append_add, toNat_field, hb]
    omega
  · show (BitVec.ofBool (l.getLsbD 0 ^^ l.getLsbD 1) ++ l.extractLsb' 8 7 ++
      BitVec.ofBool (l.getLsbD 0 ^^ l.getLsbD 1) ++ l.extractLsb' 1 6).toNat =
        moved - 64 * (moved / 64 % 2) + 64 * b
    rw [toNat_append_add, toNat_append_add, toNat_append_add, toNat_field, toNat_field, hb,
      ← narrow_feedback (l.toNat / 2) b, Nat.div_div_eq_div_mul,
      Nat.mod_eq_of_lt (a := l.toNat / 2 ^ 8) (Nat.div_lt_of_lt_mul hl)]
    rfl

/-- Rule R650: the noise channel's timer in numbers. -/
theorem noiseAfter_eq (c : Noise) : noiseAfter c = c.timerTick := by
  unfold noiseAfter Noise.timerTick
  by_cases htimer : c.freqTimer ≤ 1
  · rw [if_pos htimer, if_neg (Nat.not_lt.2 htimer)]
    have hshift : (c.control.extractLsb' 4 4).toNat = c.control.toNat / 16 := by
      have := c.control.isLt
      rw [toNat_field]
      omega
    have hnarrow : c.control.getLsbD 3 = decide (c.control.toNat / 8 % 2 = 1) := getLsbD_num c.control 3
    have hlfsr : (if c.control.toNat / 16 < 14 then lfsrStep (c.control.getLsbD 3) c.lfsr else c.lfsr) =
        BitVec.ofNat 15 (
          let l := c.lfsr.toNat
          let b := (l + l / 2) % 2
          let moved := l / 2 + 16384 * b
          if 14 ≤ c.control.toNat / 16 then l
          else if c.control.toNat / 8 % 2 = 1 then moved - 64 * (moved / 64 % 2) + 64 * b
          else moved) := by
      refine eq_ofNat ?_
      by_cases h : c.control.toNat / 16 < 14
      · rw [if_pos h, toNat_lfsrStep, hnarrow]
        dsimp only
        rw [if_neg (Nat.not_le.2 h)]
        exact if_congr decide_eq_true_iff rfl rfl
      · rw [if_neg h]
        dsimp only
        rw [if_pos (Nat.not_lt.1 h)]
    rw [hshift, noiseReload_eq, hlfsr]
  · rw [if_neg htimer, if_pos (Nat.not_le.1 htimer)]

/-! ## The amplitudes and the mixer -/

theorem dutyHigh_eq : ∀ (duty : BitVec 2) (pos : Nat), pos < 8 → dutyHigh duty pos = decide
    ((if duty = 0 then 0x01 else if duty = 1 then 0x81 else if duty = 2 then 0x87 else 0x7E) /
      2 ^ (7 - pos) % 2 = 1) := by
  decide

/-- Rules R621, R623: a pulse channel's amplitude in numbers. -/
theorem pulseLevel_eq {c : Pulse} (h : c.dutyPos < 8) : pulseLevel c = c.amp := by
  unfold pulseLevel Pulse.amp Pulse.dac
  rw [envelopeDac_eq, dutyHigh_eq _ _ h]
  refine if_congr ?_ rfl rfl
  rw [Bool.and_eq_true, Bool.and_eq_true, decide_eq_true_iff, decide_eq_true_iff, and_assoc]

/-- Rule R641: the wave channel's amplitude in numbers. -/
theorem waveLevel_eq (c : Wave) : waveLevel c = c.amp := by
  unfold waveLevel Wave.amp
  by_cases hplays : c.on = true ∧ c.dacOn = true
  · obtain ⟨hon, hdac⟩ := hplays
    have hlt := c.level.isLt
    have hzero : c.level ≠ 0 ↔ c.level.toNat ≠ 0 := not_congr (BitVec.toNat_inj (y := 0)).symm
    simp only [hon, hdac, hzero, true_and, Bool.and_self, if_true]
    generalize c.level.toNat = k at hlt
    match k with
    | 0 => rfl
    | 1 => exact Nat.div_one _
    | 2 => rfl
    | 3 => rfl
  · rw [if_neg fun h => hplays ⟨h.1, h.2.1⟩, if_neg fun h => hplays (by simpa using h)]

/-- Rule R651: the noise channel's amplitude in numbers. -/
theorem noiseLevel_eq (c : Noise) : noiseLevel c = c.amp := by
  unfold noiseLevel Noise.amp Noise.dac
  rw [envelopeDac_eq, getLsbD_num]
  refine if_congr ?_ rfl rfl
  simp [and_assoc]

/-- Rules R623, R641, R651: no amplitude is above 15. -/
theorem Pulse.amp_le {c : Pulse} (h : c.volume ≤ 15) : c.amp ≤ 15 := by
  unfold Pulse.amp
  split
  · exact h
  · exact Nat.zero_le _

theorem Noise.amp_le {c : Noise} (h : c.volume ≤ 15) : c.amp ≤ 15 := by
  unfold Noise.amp
  split
  · exact h
  · exact Nat.zero_le _

theorem Wave.amp_le (c : Wave) : c.amp ≤ 15 := by
  have := c.sample.isLt
  unfold Wave.amp
  split
  · split <;> omega
  · exact Nat.zero_le _

/-- Rule R660: one side of the mixer in numbers, its panning bits those of NR51 from `base` up. -/
theorem sideLevel_eq {a : Apu} (h1 : a.ch1.dutyPos < 8) (h2 : a.ch2.dutyPos < 8) (base volume : Nat) :
    sideLevel a (a.nr51.toNat / 2 ^ base) volume = if a.power then a.panned base * (volume + 1) else 0 := by
  have hbit (k x : Nat) : a.nr51.toNat / 2 ^ base / 2 ^ k % 2 * x =
      if a.nr51.getLsbD (base + k) then x else 0 := by
    rw [getLsbD_num, Nat.div_div_eq_div_mul, ← Nat.pow_add]
    rcases Nat.mod_two_eq_zero_or_one (a.nr51.toNat / 2 ^ (base + k)) with h | h <;> simp [h]
  have hfirst := hbit 0 a.ch1.amp
  rw [pow_zero, Nat.div_one, Nat.add_zero] at hfirst
  rw [sideLevel, Apu.panned, pulseLevel_eq h1, pulseLevel_eq h2, waveLevel_eq, noiseLevel_eq, hfirst,
    ← hbit 1, ← hbit 2, ← hbit 3]
  rfl

/-- Rule R660: a side has four panning bits. -/
theorem sideLevel_mod (a : Apu) (panning volume : Nat) :
    sideLevel a (panning % 16) volume = sideLevel a panning volume := by
  have h1 : panning % 16 % 2 = panning % 2 := by omega
  have h2 : panning % 16 / 2 % 2 = panning / 2 % 2 := by omega
  have h4 : panning % 16 / 4 % 2 = panning / 4 % 2 := by omega
  have h8 : panning % 16 / 8 % 2 = panning / 8 % 2 := by omega
  rw [sideLevel, sideLevel, h1, h2, h4, h8]

/-- Rule R660: a side of the mixer is at most 4 amplitudes of 15 at 8 times. -/
theorem Apu.panned_le {a : Apu} (h : a.legal = true) (base volume : Nat) (hv : volume < 8) :
    (if a.power then a.panned base * (volume + 1) else 0) ≤ 480 := by
  obtain ⟨hch1, hch2, hch3, hch4, -⟩ := a.legal_iff.1 h
  obtain ⟨-, -, hvol1, -⟩ := a.ch1.legal_iff.1 hch1
  obtain ⟨-, -, hvol2, -⟩ := a.ch2.legal_iff.1 hch2
  obtain ⟨-, hvol4, -⟩ := a.ch4.legal_iff.1 hch4
  have hpart (bit : Bool) {x : Nat} (hx : x ≤ 15) : (if bit then x else 0) ≤ 15 := by
    cases bit
    · exact Nat.zero_le _
    · exact hx
  have hsum : a.panned base ≤ 60 := by
    have := hpart (a.nr51.getLsbD base) (Pulse.amp_le hvol1)
    have := hpart (a.nr51.getLsbD (base + 1)) (Pulse.amp_le hvol2)
    have := hpart (a.nr51.getLsbD (base + 2)) a.ch3.amp_le
    have := hpart (a.nr51.getLsbD (base + 3)) (Noise.amp_le hvol4)
    unfold Apu.panned
    omega
  split
  · calc a.panned base * (volume + 1) ≤ 60 * 8 := Nat.mul_le_mul hsum hv
      _ = 480 := rfl
  · exact Nat.zero_le _

/-! ## The frame sequencer in numbers -/

/-- Rule R605: the four lengths, where a length clock comes or not. -/
def Apu.clockLengths (clocked : Bool) (a : Apu) : Apu :=
  let l1 := lengthAfter clocked a.ch1.lenEn a.ch1.on a.ch1.length
  let l2 := lengthAfter clocked a.ch2.lenEn a.ch2.on a.ch2.length
  let l3 := lengthAfter clocked a.ch3.lenEn a.ch3.on a.ch3.length
  let l4 := lengthAfter clocked a.ch4.lenEn a.ch4.on a.ch4.length
  { a with
    ch1 := { a.ch1 with length := l1.1, on := l1.2 }
    ch2 := { a.ch2 with length := l2.1, on := l2.2 }
    ch3 := { a.ch3 with length := l3.1, on := l3.2 }
    ch4 := { a.ch4 with length := l4.1, on := l4.2 } }

/-- Rule R614: the sweep unit and channel 1, where a sweep clock comes or not. -/
def Apu.clockSweep (clocked : Bool) (a : Apu) : Apu :=
  let w := sweepAfter clocked a.sweep a.ch1.period a.ch1.on
  { a with sweep := w.1, ch1 := { a.ch1 with period := w.2.1, on := w.2.2 } }

/-- Rule R620: the three envelopes, where an envelope clock comes or not. -/
def Apu.clockEnvelopes (clocked : Bool) (a : Apu) : Apu :=
  let e1 := envelopeAfter clocked a.ch1.envelope a.ch1.volume a.ch1.envTimer
  let e2 := envelopeAfter clocked a.ch2.envelope a.ch2.volume a.ch2.envTimer
  let e4 := envelopeAfter clocked a.ch4.envelope a.ch4.volume a.ch4.envTimer
  { a with
    ch1 := { a.ch1 with volume := e1.1, envTimer := e1.2 }
    ch2 := { a.ch2 with volume := e2.1, envTimer := e2.2 }
    ch4 := { a.ch4 with volume := e4.1, envTimer := e4.2 } }

theorem Apu.clockLengths_eq (a : Apu) (p : Prop) [Decidable p] : a.clockLengths (decide p) = if p then
    { a with
      ch1 := a.ch1.clockLength, ch2 := a.ch2.clockLength
      ch3 := a.ch3.clockLength, ch4 := a.ch4.clockLength }
    else a := by
  unfold Apu.clockLengths
  simp only [lengthAfter_eq]
  by_cases h : p
  · rw [if_pos h, decide_eq_true h]; rfl
  · rw [if_neg h, decide_eq_false h]; rfl

theorem Apu.clockSweep_eq (a : Apu) (p : Prop) [Decidable p] : a.clockSweep (decide p) = if p then
    { a with sweep := (sweepClock a.sweep a.ch1).1, ch1 := (sweepClock a.sweep a.ch1).2 } else a := by
  by_cases h : p
  · rw [if_pos h, decide_eq_true h, sweepClock_eq]; rfl
  · rw [if_neg h, decide_eq_false h]; rfl

theorem Apu.clockEnvelopes_eq (a : Apu) (p : Prop) [Decidable p] : a.clockEnvelopes (decide p) = if p then
    { a with ch1 := a.ch1.clockEnvelope, ch2 := a.ch2.clockEnvelope, ch4 := a.ch4.clockEnvelope }
    else a := by
  unfold Apu.clockEnvelopes
  simp only [envelopeAfter_eq]
  by_cases h : p
  · rw [if_pos h, decide_eq_true h]; rfl
  · rw [if_neg h, decide_eq_false h]; rfl

/-- Rule R603: what a step of the frame sequencer clocks: lengths on the even steps, the sweep on 2 and 6,
envelopes on 7. -/
theorem Apu.fsClock_eq (a : Apu) : a.fsClock = Apu.clockEnvelopes (decide (a.fsStep = 7))
    (Apu.clockSweep (decide (a.fsStep = 2 ∨ a.fsStep = 6))
      (Apu.clockLengths (decide (a.fsStep % 2 = 0)) a)) := by
  rw [Apu.clockEnvelopes_eq, Apu.clockSweep_eq, Apu.clockLengths_eq]
  rfl

/-- Rules R600, R603: a master cycle of a running APU before its output. -/
theorem apuAfter_eq (ram : Store) (a : Apu) :
    apuAfter ram a = if a.power then a.sequence.channels ram else a := by
  cases hpower : a.power
  · exact if_pos hpower
  · refine (if_neg (by rw [hpower]; exact Bool.true_eq_false_eq_False)).trans ?_
    simp only [pulseAfter_eq, waveAfter_eq, noiseAfter_eq, if_true]
    by_cases hwraps : a.fsCounter + 1 = 8192
    · rw [decide_eq_true hwraps, Apu.sequence, if_pos hwraps, a.fsClock_eq, if_pos rfl]
      rfl
    · rw [decide_eq_false hwraps, Apu.sequence, if_neg hwraps]
      rfl

/-! ## The sample stream -/

/-- Rule R670: the sample accumulator and the stream are the output's alone. -/
theorem apuAfter_output (ram : Store) (a : Apu) : (apuAfter ram a).sampleAcc = a.sampleAcc ∧
    (apuAfter ram a).sampleRate = a.sampleRate ∧ (apuAfter ram a).samples = a.samples := by
  unfold apuAfter
  split <;> exact ⟨rfl, rfl, rfl⟩

/-- Rules R600, R670: a tick is a master cycle of the units, then the output. -/
theorem Apu.tick_eq (ram : Store) (a : Apu) : a.tick ram =
    if a.sampleAcc + a.sampleRate < 4194304 then
      { apuAfter ram a with sampleAcc := a.sampleAcc + a.sampleRate }
    else
      { apuAfter ram a with
        sampleAcc := a.sampleAcc + a.sampleRate - 4194304
        samples := a.samples ++ [((apuAfter ram a).left, (apuAfter ram a).right)] } := by
  obtain ⟨hacc, hrate, hsamples⟩ := apuAfter_output ram a
  rw [Apu.tick, ← apuAfter_eq, Apu.output, ← hacc, ← hrate, ← hsamples]
  generalize apuAfter ram a = next
  by_cases h : next.sampleAcc + next.sampleRate < 4194304
  · rw [if_pos h]; exact if_neg (Nat.not_le.2 h)
  · rw [if_neg h]; exact if_pos (Nat.not_lt.1 h)

/-- Rule R670: what one tick does to the sample stream. -/
theorem Apu.tick_samples (ram : Store) {a : Apu} (h : a.legal = true) :
    (a.tick ram).sampleRate = a.sampleRate ∧
    (a.tick ram).sampleAcc = (a.sampleAcc + a.sampleRate) % 4194304 ∧
    (a.tick ram).samples.length = a.samples.length + (a.sampleAcc + a.sampleRate) / 4194304 ∧
    a.samples <+: (a.tick ram).samples := by
  obtain ⟨-, -, -, -, -, -, -, hrate, hacc, -⟩ := a.legal_iff.1 h
  change a.sampleRate ≤ 4194304 at hrate
  change a.sampleAcc < 4194304 at hacc
  obtain ⟨-, hsame, hsamples⟩ := apuAfter_output ram a
  rw [a.tick_eq]
  split
  · rename_i hbelow
    have hnone : (a.sampleAcc + a.sampleRate) / 4194304 = 0 := Nat.div_eq_of_lt hbelow
    exact ⟨hsame, (Nat.mod_eq_of_lt hbelow).symm, by rw [hnone, hsamples, Nat.add_zero],
      by rw [hsamples]⟩
  · rename_i hover
    have hone : (a.sampleAcc + a.sampleRate) / 4194304 = 1 := by omega
    refine ⟨hsame, ?_, by rw [hone, List.length_append, List.length_singleton], List.prefix_append _ _⟩
    show a.sampleAcc + a.sampleRate - 4194304 = _
    omega

/-- Rule R670: what `n` ticks do to the sample stream. -/
theorem Apu.repeatTick_samples (ram : Store) (n : Nat) {a : Apu} (h : a.legal = true) :
    let b := repeatTick (Apu.tick ram) n a
    b.samples.length = a.samples.length + (a.sampleAcc + n * a.sampleRate) / 4194304 ∧
    b.sampleAcc = (a.sampleAcc + n * a.sampleRate) % 4194304 ∧ a.samples <+: b.samples := by
  induction n generalizing a with
  | zero =>
    obtain ⟨-, -, -, -, -, -, -, -, hacc, -⟩ := a.legal_iff.1 h
    change a.sampleAcc < 4194304 at hacc
    rw [Nat.zero_mul, Nat.add_zero, Nat.div_eq_of_lt hacc, Nat.mod_eq_of_lt hacc]
    exact ⟨rfl, rfl, List.prefix_rfl⟩
  | succ n ih =>
    obtain ⟨hrate, hacc, hlength, hprefix⟩ := Apu.tick_samples ram h
    obtain ⟨hlengths, haccs, hprefixes⟩ := ih (Apu.legal_tick ram a h)
    rw [hrate, hacc, hlength] at hlengths
    rw [hrate, hacc] at haccs
    rw [Nat.succ_mul]
    refine ⟨hlengths.trans ?_, haccs.trans ?_, hprefix.trans hprefixes⟩
    · omega
    · omega

/-- Settles O51: a tick is `apuAfter` and the output (`Apu.tick_eq`), the mixer's sums are bounded by four
amplitudes of 15, and the sample count is by induction on the ticks. -/
theorem apuSamples : Obligations.ApuSamples := by
  intro a ram n h
  obtain ⟨hch1, hch2, -⟩ := a.legal_iff.1 h
  obtain ⟨-, hduty1, -⟩ := a.ch1.legal_iff.1 hch1
  obtain ⟨-, hduty2, -⟩ := a.ch2.legal_iff.1 hch2
  have hleft : a.left = if a.power then a.panned 4 * (a.nr50.toNat / 16 % 8 + 1) else 0 := by
    rw [Apu.left, toNat_field]; rfl
  have hright : a.right = if a.power then a.panned 0 * (a.nr50.toNat % 8 + 1) else 0 := by
    rw [Apu.right, toNat_field, pow_zero, Nat.div_one]; rfl
  have hside := sideLevel_eq hduty1 hduty2 0 (a.nr50.toNat % 8)
  rw [pow_zero, Nat.div_one, ← sideLevel_mod] at hside
  obtain ⟨hlength, hacc, hprefix⟩ := Apu.repeatTick_samples ram n h
  exact ⟨hleft.trans (sideLevel_eq hduty1 hduty2 4 _).symm, hright.trans hside.symm,
    hleft.trans_le (Apu.panned_le h 4 _ (Nat.mod_lt _ (by decide))),
    hright.trans_le (Apu.panned_le h 0 _ (Nat.mod_lt _ (by decide))), a.tick_eq ram, hlength, hacc,
    (List.prefix_iff_eq_take.1 hprefix).symm⟩

end Sys2Proof.Machine

namespace Sys2Proof.Machine

/-! ## A channel triggered (65_apu.md R607, R608, R611-R613) -/

/-- Rules R607, R608: the length a trigger leaves. -/
def Apu.triggeredLength (x : Apu) (v : Byte) (full old : Nat) (en : Bool) : Nat :=
  let l := if en = false ∧ v.getLsbD 6 = true ∧ x.fsStep % 2 = 1 then old - 1 else old
  if l = 0 then (if v.getLsbD 6 = true ∧ x.fsStep % 2 = 1 then full - 1 else full) else l

theorem Apu.triggerLength_extraClock (x : Apu) (v : Byte) (full old : Nat) (en on : Bool) :
    triggerLength full x.fsOdd (extraClock en x.fsOdd on old v).1 v = x.triggeredLength v full old en := by
  have hodd : x.fsOdd = decide (x.fsStep % 2 = 1) := by
    rw [Apu.fsOdd, Bool.eq_iff_iff, beq_iff_eq, decide_eq_true_iff]
  have hclock : (extraClock en x.fsOdd on old v).1 =
      if en = false ∧ v.getLsbD 6 = true ∧ x.fsStep % 2 = 1 then old - 1 else old := by
    have hcond : (!en && v.getLsbD 6 && decide (x.fsStep % 2 = 1) && old != 0) = true ↔
        (en = false ∧ v.getLsbD 6 = true ∧ x.fsStep % 2 = 1) ∧ old ≠ 0 := by simp [and_assoc]
    rw [extraClock, hodd, if_congr hcond rfl rfl]
    by_cases hold : old = 0
    · rw [if_neg fun h => h.2 hold, hold, Nat.zero_sub, ite_self]
    · rw [if_congr (and_iff_left hold) rfl rfl, apply_ite Prod.fst]
  rw [triggerLength, hclock, hodd, Apu.triggeredLength]
  simp

theorem envelopeVolume_eq (v : Byte) : envelopeVolume v = v.toNat / 16 := by
  have := v.isLt
  rw [envelopeVolume, toNat_field]
  omega

theorem envelopePace_eq (v : Byte) : envelopePace v = v.toNat % 8 := by
  rw [envelopePace, toNat_field, pow_zero, Nat.div_one]
  rfl

section
variable (x : Apu) {v : Byte} (hv : v.getLsbD 7 = true)
include hv

theorem Pulse.writeControl_trigger (c : Pulse) : c.writeControl x.fsOdd v =
    { c with
      on := decide (c.envelope.toNat / 8 ≠ 0)
      length := x.triggeredLength v 64 c.length c.lenEn
      lenEn := v.getLsbD 6
      volume := c.envelope.toNat / 16
      envTimer := c.envelope.toNat % 8
      period := BitVec.ofNat 11 (v.toNat % 8 * 256 + c.period.toNat % 256)
      freqTimer := (2048 - (BitVec.ofNat 11 (v.toNat % 8 * 256 + c.period.toNat % 256)).toNat) * 4 } := by
  rw [Pulse.writeControl, if_pos hv, Pulse.trigger, Pulse.storeControl]
  dsimp only
  rw [x.triggerLength_extraClock, periodHigh_eq, pulsePeriod, envelopeVolume_eq, envelopePace_eq, Pulse.dac,
    envelopeDac_eq]

theorem Wave.writeControl_trigger (c : Wave) : c.writeControl x.fsOdd v =
    { c with
      on := c.dacOn
      length := x.triggeredLength v 256 c.length c.lenEn
      lenEn := v.getLsbD 6
      pos := 0
      period := BitVec.ofNat 11 (v.toNat % 8 * 256 + c.period.toNat % 256)
      freqTimer := (2048 - (BitVec.ofNat 11 (v.toNat % 8 * 256 + c.period.toNat % 256)).toNat) * 2 } := by
  rw [Wave.writeControl, if_pos hv, Wave.trigger, Wave.storeControl]
  dsimp only
  rw [x.triggerLength_extraClock, periodHigh_eq, wavePeriod]

theorem Noise.writeControl_trigger (c : Noise) : c.writeControl x.fsOdd v =
    { c with
      on := decide (c.envelope.toNat / 8 ≠ 0)
      length := x.triggeredLength v 64 c.length c.lenEn
      lenEn := v.getLsbD 6
      volume := c.envelope.toNat / 16
      envTimer := c.envelope.toNat % 8
      lfsr := 0x7FFF
      freqTimer := noiseReload c.control } := by
  rw [Noise.writeControl, if_pos hv, Noise.trigger, Noise.storeControl]
  dsimp only
  rw [x.triggerLength_extraClock, envelopeVolume_eq, envelopePace_eq, noiseReload_eq, Noise.dac, envelopeDac_eq]

end

/-- Rule R613: only an increasing sweep calculation overflows. -/
theorem Sweep.next_le (w : Sweep) : decide (w.next ≤ 2047) = (decide (w.nr10.toNat / 8 % 2 = 1) ||
    decide (w.shadow.toNat + w.shadow.toNat / 2 ^ (w.nr10.toNat % 8) ≤ 2047)) := by
  rw [Sweep.next, w.down_eq, w.shift_eq]
  by_cases hdown : w.nr10.toNat / 8 % 2 = 1
  · have hfits : w.shadow.toNat - w.shadow.toNat / 2 ^ (w.nr10.toNat % 8) ≤ 2047 :=
      (Nat.sub_le _ _).trans (Nat.le_of_lt_succ w.shadow.isLt)
    rw [decide_eq_true hdown, if_pos rfl, decide_eq_true hfits, Bool.true_or]
  · rw [decide_eq_false hdown, if_neg Bool.false_ne_true, Bool.false_or]

/-- Rules R612, R613: `sweep_init` in numbers. -/
theorem sweepInit_eq (w : Sweep) (c : Pulse) :
    let n := w.nr10.toNat
    sweepInit w c =
      ({ w with
        shadow := c.period
        timer := if n / 16 = 0 then 8 else n / 16
        enabled := decide (n / 16 ≠ 0 ∨ n % 8 ≠ 0)
        negated := decide (n % 8 ≠ 0 ∧ n / 8 % 2 = 1) },
      { c with on := c.on && (decide (n % 8 = 0) || decide (n / 8 % 2 = 1) ||
        decide (c.period.toNat + c.period.toNat / 2 ^ (n % 8) ≤ 2047)) }) := by
  intro n
  have henabled : (w.pace != 0 || w.shift != 0) = decide (n / 16 ≠ 0 ∨ n % 8 ≠ 0) := by
    rw [w.pace_eq, w.shift_eq, Bool.eq_iff_iff, Bool.or_eq_true, bne_iff_ne, bne_iff_ne, decide_eq_true_iff]
  rw [sweepInit, henabled, Sweep.reload, w.pace_eq, w.shift_eq]
  by_cases hshift : n % 8 = 0
  · rw [if_pos hshift, decide_eq_true hshift, decide_eq_false (p := n % 8 ≠ 0 ∧ _) fun h => h.1 hshift,
      Bool.true_or, Bool.true_or, Bool.and_true]
  · rw [if_neg hshift, Sweep.note, Pulse.checkSweep, Sweep.next_le, Sweep.down_eq, decide_eq_false hshift,
      Bool.false_or, decide_eq_decide.2 (and_iff_right hshift)]

/-- Rules R607, R608: the period a trigger stores. -/
theorem toNat_triggeredPeriod (v : Byte) (p : BitVec 11) :
    (BitVec.ofNat 11 (v.toNat % 8 * 256 + p.toNat % 256)).toNat = v.toNat % 8 * 256 + p.toNat % 256 := by
  rw [BitVec.toNat_ofNat]
  omega

/-- Settles O53: each NRx4 write with bit 7 is the channel's own (`Pulse.writeControl_trigger`,
`Wave.writeControl_trigger`, `Noise.writeControl_trigger`), channel 1's with `sweepInit_eq`. -/
theorem apuTrigger : Obligations.ApuTrigger := by
  intro s v hpower hv odd len
  have hfirst : (s.storeByte 0xFF14 v).apu = s.apu.writeNr14 v := State.storeByte_apuOn .nr14 hpower rfl rfl
  have hsecond : (s.storeByte 0xFF19 v).apu = { s.apu with ch2 := s.apu.ch2.writeControl s.apu.fsOdd v } :=
    State.storeByte_apuOn .nr24 hpower rfl rfl
  have hthird : (s.storeByte 0xFF1E v).apu = { s.apu with ch3 := s.apu.ch3.writeControl s.apu.fsOdd v } :=
    State.storeByte_apuOn .nr34 hpower rfl rfl
  have hfourth : (s.storeByte 0xFF23 v).apu = { s.apu with ch4 := s.apu.ch4.writeControl s.apu.fsOdd v } :=
    State.storeByte_apuOn .nr44 hpower rfl rfl
  refine ⟨?_, ?_, ?_, ?_⟩
  · rw [Apu.writeNr14, if_pos hv, s.apu.ch1.writeControl_trigger s.apu hv, sweepInit_eq] at hfirst
    rw [hfirst]
    exact ⟨rfl, rfl, rfl, rfl, rfl, toNat_triggeredPeriod v _, rfl, rfl⟩
  · rw [hsecond, s.apu.ch2.writeControl_trigger s.apu hv]
    exact ⟨rfl, rfl, rfl, rfl, rfl, toNat_triggeredPeriod v _, rfl, rfl⟩
  · rw [hthird, s.apu.ch3.writeControl_trigger s.apu hv]
    exact ⟨rfl, rfl, rfl, rfl, toNat_triggeredPeriod v _, rfl, rfl⟩
  · rw [hfourth, s.apu.ch4.writeControl_trigger s.apu hv]
    exact ⟨rfl, rfl, rfl, rfl, rfl, rfl, rfl, rfl⟩

end Sys2Proof.Machine

namespace Sys2Proof.Machine

/-! ## The APU switched off (65_apu.md R602, R606, R681) -/

/-- Rules R87, R89, R681: what an APU register reads while the APU is off, its read mask. -/
def IoReg.readOff : IoReg → Byte
  | .nr10 => 0x80
  | .nr11 | .nr21 => 0x3F
  | .nr12 | .nr22 | .nr42 | .nr43 | .nr50 | .nr51 => 0x00
  | .nr14 | .nr24 | .nr34 | .nr44 => 0xBF
  | .nr30 => 0x7F
  | .nr32 => 0x9F
  | .nr52 => 0x70
  | _ => 0xFF

theorem Apu.read_powerOff (x : Apu) (cgb : Bool) (r : IoReg) : (x.powerOff cgb).read r = r.readOff := by
  cases r
  case nr10 => show 0b1#1 ++ 0#7 = 0x80#8; decide
  case nr11 | nr21 => show 0#2 ++ 0x3F#6 = 0x3F#8; decide
  case nr14 | nr24 | nr34 | nr44 => show 0xBF#8 ||| bitAt false 6 = 0xBF#8; decide
  case nr30 => show 0x7F#8 ||| bitAt false 7 = 0x7F#8; decide
  case nr32 => show 0b1#1 ++ 0#2 ++ 0x1F#5 = 0x9F#8; decide
  case nr52 =>
    show 0x70#8 ||| bitAt false 7 ||| bitAt false 3 ||| bitAt false 2 ||| bitAt false 1 |||
      bitAt false 0 = 0x70#8
    decide
  all_goals rfl

/-- Rules R145, R681: a read of an APU register, the unmapped ones among them reading 0xFF. -/
theorem State.ioRead_apu (s : State) (a : Word) {r : IoReg} (h : r.isApu = true) :
    s.ioRead a r = .value (s.apu.read r) := by
  cases r
  case nr10 | nr11 | nr12 | nr13 | nr14 | nr21 | nr22 | nr23 | nr24 | nr30 | nr31 | nr32 | nr33 | nr34 |
      nr41 | nr42 | nr43 | nr44 | nr50 | nr51 | nr52 | unmapped => rfl
  all_goals cases h

/-- Rules R602, R606: a write while the APU is off, by register. -/
theorem Apu.writeOff_eq (x : Apu) (cgb : Bool) (r : IoReg) (w : Byte) : x.writeOff cgb r w =
    if cgb = false ∧ r = .nr11 then { x with ch1 := { x.ch1 with length := 64 - w.toNat % 64 } }
    else if cgb = false ∧ r = .nr21 then { x with ch2 := { x.ch2 with length := 64 - w.toNat % 64 } }
    else if cgb = false ∧ r = .nr31 then { x with ch3 := { x.ch3 with length := 256 - w.toNat } }
    else if cgb = false ∧ r = .nr41 then { x with ch4 := { x.ch4 with length := 64 - w.toNat % 64 } }
    else x := by
  rw [← loadLength64_eq]
  cases cgb
  · cases r <;> rfl
  · simp [Apu.writeOff]

/-- Rules R70-R86: the registers of 0xFF10-0xFF25, and where the four that load a length are. -/
theorem ioReg_apu (m : ConsoleMode) {a : Word} (hlo : 0xFF10 ≤ a.toNat) (hhi : a.toNat ≤ 0xFF25) :
    let r := ioReg m a
    (r.isApu = true ∧ r ≠ .nr52) ∧ (r = .nr11 ↔ a = 0xFF11) ∧ (r = .nr21 ↔ a = 0xFF16) ∧
      (r = .nr31 ↔ a = 0xFF1B) ∧ (r = .nr41 ↔ a = 0xFF20) :=
  ioPage_forall (P := fun a => 0xFF10 ≤ a.toNat → a.toNat ≤ 0xFF25 → ((ioReg m a).isApu = true ∧
      ioReg m a ≠ .nr52) ∧ (ioReg m a = .nr11 ↔ a = 0xFF11) ∧ (ioReg m a = .nr21 ↔ a = 0xFF16) ∧
      (ioReg m a = .nr31 ↔ a = 0xFF1B) ∧ (ioReg m a = .nr41 ↔ a = 0xFF20))
    (by cases m <;> decide +kernel) (by omega) (by omega) hlo hhi

/-- Rules R602, R606: a write to 0xFF10-0xFF25 while the APU is off loads a length outside CGB mode, and
does nothing else. -/
theorem State.storeByte_apuOff {s : State} (hoff : s.apu.power = false) {a : Word} (w : Byte)
    (hlo : 0xFF10 ≤ a.toNat) (hhi : a.toNat ≤ 0xFF25) : (s.storeByte a w).apu =
    if s.model ≠ .cgb ∧ a = 0xFF11 then { s.apu with ch1 := { s.apu.ch1 with length := 64 - w.toNat % 64 } }
    else if s.model ≠ .cgb ∧ a = 0xFF16 then
      { s.apu with ch2 := { s.apu.ch2 with length := 64 - w.toNat % 64 } }
    else if s.model ≠ .cgb ∧ a = 0xFF1B then { s.apu with ch3 := { s.apu.ch3 with length := 256 - w.toNat } }
    else if s.model ≠ .cgb ∧ a = 0xFF20 then
      { s.apu with ch4 := { s.apu.ch4 with length := 64 - w.toNat % 64 } }
    else s.apu := by
  obtain ⟨⟨hapu, hne⟩, h1, h2, h3, h4⟩ := ioReg_apu s.model hlo hhi
  have hcgb : s.isCgb = false ↔ s.model ≠ .cgb := by
    rw [State.isCgb, beq_eq_false_iff_ne]
  rw [s.storeByte_io (State.target_eq_io_iff.2 ⟨by omega, rfl⟩), s.ioWrite_apu w hapu, Apu.write,
    if_neg hne, if_neg (by rw [hoff]; exact Bool.false_ne_true), Apu.writeOff_eq]
  simp only [hcgb, h1, h2, h3, h4]

/-- Rules R89, R681: the registers 0xFF10-0xFF26 and their read masks. -/
theorem maskedRegisters : ∀ r ∈ [(0x10, 0x80), (0x11, 0x3F), (0x12, 0x00), (0x13, 0xFF), (0x14, 0xBF),
      (0x16, 0x3F), (0x17, 0x00), (0x18, 0xFF), (0x19, 0xBF), (0x1A, 0x7F), (0x1B, 0xFF), (0x1C, 0x9F),
      (0x1D, 0xFF), (0x1E, 0xBF), (0x20, 0xFF), (0x21, 0x00), (0x22, 0x00), (0x23, 0xBF), (0x24, 0x00),
      (0x25, 0x00), (0x26, 0x70)],
    let a : Word := 0xFF00 + BitVec.ofNat 16 r.1
    (ioReg .cgb a).isApu = true ∧ (ioReg .cgb a).everyMode = true ∧ (0xFF00 ≤ a.toNat ∧ a.toNat < 0xFF80) ∧
      (ioReg .cgb a).readOff = BitVec.ofNat 8 r.2 := by
  decide +kernel

/-- Settles O52: the write is `powerOff`, whose registers read their masks, and writes after it are
`State.storeByte_apuOff`. -/
theorem apuPowerOff : Obligations.ApuPowerOff := by
  intro s v hpower hv t
  have hoff : t.apu = s.apu.powerOff s.isCgb := by
    show (s.storeByte 0xFF26 v).apu = _
    rw [s.storeByte_io (s.target_reg 0xFF26 .nr52), s.ioWrite_apu v rfl, Apu.write, if_pos rfl,
      Apu.writeNr52, hpower, hv]
    rfl
  have hmodel : t.model = s.model := by
    show (s.storeByte 0xFF26 v).model = _
    rw [s.storeByte_apu v (by decide) (by decide)]
  refine ⟨by rw [hoff]; rfl, by rw [hoff]; rfl, by rw [hoff]; rfl, by rw [hoff]; rfl, by rw [hoff]; rfl,
    fun r hr => ?_, ?_, fun a w hlo hhi => ?_⟩
  · obtain ⟨hapu, hmode, hpage, hmask⟩ := maskedRegisters r hr
    rw [t.busRead_io (t.target_reg _ _ rfl hpage hmode), t.ioRead_apu _ hapu, hoff, Apu.read_powerOff, hmask]
  · rw [hoff, State.isCgb]
    by_cases hcgb : s.model = .cgb
    · rw [if_pos hcgb, hcgb]; exact ⟨rfl, rfl, rfl, rfl⟩
    · rw [if_neg hcgb, beq_false_of_ne hcgb]; exact ⟨rfl, rfl, rfl, rfl⟩
  · rw [← hmodel]
    exact State.storeByte_apuOff (by rw [hoff]; rfl) w hlo hhi

end Sys2Proof.Machine
